-- ==== Sys2Proof/Word.lean ====
section
/-! DEFINITION. The two word types of the CORE (spec/00_scope.md R6, R8, R9) and the names its operands are
made of: registers, register pairs, conditions, operations. Nothing here computes. -/

namespace Sys2Proof

/-- An 8-bit value: a register, a bus byte (R6). -/
abbrev Byte := BitVec 8

/-- A 16-bit value: PC, SP, a register pair, a bus address (R6, R37). -/
abbrev Addr := BitVec 16

/-- The seven general 8-bit registers (R14, R15). F is not among them: it is the packed form of the flags (R23). -/
inductive Reg8 where
  | a | b | c | d | e | h | l
deriving DecidableEq, Repr

/-- What the 3-bit register field names (R57): a register, or the byte at address `pair(HL)`. -/
inductive Operand8 where
  | reg (r : Reg8)
  | mHL
deriving DecidableEq, Repr

/-- The source of an 8-bit accumulator operation (R80). -/
inductive Source8 where
  | reg (r : Reg8)
  | mHL
  | imm (n : Byte)
deriving DecidableEq, Repr

/-- The four register pairs of R20; also the `rr2` field of PUSH and POP (R58). -/
inductive Pair where
  | bc | de | hl | af
deriving DecidableEq, Repr

/-- The `rr` field (R58): a register pair or SP. -/
inductive Wide where
  | bc | de | hl | sp
deriving DecidableEq, Repr

/-- The indirect field of x = 0, z = 2 (R58): (BC), (DE), (HL+), (HL-). -/
inductive Indirect where
  | bc | de | hlInc | hlDec
deriving DecidableEq, Repr

/-- The condition field (R58, R132). -/
inductive Cond where
  | nz | z | nc | c
deriving DecidableEq, Repr

/-- The two-operand accumulator operations, in the order of the `y` field (R61). -/
inductive AluOp where
  | add | adc | sub | sbc | and | xor | or | cp
deriving DecidableEq, Repr

/-- The rotates and shifts of the CB table, in the order of the `y` field (R61). -/
inductive RotOp where
  | rlc | rrc | rl | rr | sla | sra | swap | srl
deriving DecidableEq, Repr

/-- The rotates of A (R144 to R147). -/
inductive AccRotOp where
  | rlca | rrca | rla | rra
deriving DecidableEq, Repr

/-- The eleven opcodes with no table entry (R62). -/
inductive Hole where
  | d3 | db | dd | e3 | e4 | eb | ec | ed | f4 | fc | fd
deriving DecidableEq, Repr

end Sys2Proof
end

