-- ==== Sys2Proof/Config.lean ====
section
/-! DEFINITION. What an implementation fixes (the named parameters of spec/00_scope.md R7 that the running machine
reads) and the free values. The parameters of construction (SP_INIT, INIT_MEM) are arguments of
`Machine.construct`. -/

namespace Sys2Proof

/-- STOP_LEN, the byte length of STOP: 1 or 2 (R7, R162). -/
inductive StopLen where
  | one | two
deriving DecidableEq, Repr

/-- The named parameters the running machine depends on (R7). They are data of the machine that no step changes, so a
statement about every state is a statement about every choice of them. -/
structure Params where
  /-- STOP_LEN. -/
  stopLen : StopLen
  /-- AND_SETS_H: whether AND sets the half-carry flag (R87). -/
  andSetsH : Bool
  /-- EXT_WRITE_SET, the addresses the renderer may write, as inclusive ranges of offsets in the page 0xFF00-0xFFFF.
  Being offsets, they cannot name an address outside that page (R45). -/
  extWriteSet : List (Byte × Byte)
deriving DecidableEq, Repr

/-- The defaults the spec takes: STOP_LEN = 2 and AND_SETS_H = false (R7). EXT_WRITE_SET is OPEN there; the whole page
is the choice that allows the renderer most (DESIGN CHOICE, log entry 4). -/
def Params.default : Params :=
  { stopLen := .two, andSetsH := false, extWriteSet := [(0x00, 0xFF)] }

namespace Config

/-- A byte the spec leaves unspecified: the `slot`-th byte of the `draw`-th free draw (R171; log entry 6). -/
opaque freeByte (draw slot : Nat) : Byte

/-- A 16-bit value the spec leaves unspecified (R171; log entry 6). -/
opaque freeAddr (draw slot : Nat) : Addr

/-- A flag the spec leaves unspecified (R171; log entry 6). -/
opaque freeFlag (draw slot : Nat) : Bool

/-- Bus contents the spec leaves unspecified, as bytes stored at addresses (R171; log entry 6). -/
opaque freeCells (draw : Nat) : List (Addr × Byte)

end Config

end Sys2Proof
end

