-- ==== Sys2Proof/Syntax.lean ====
section
/-! DEFINITION. The instructions of the CORE: one constructor for each row of spec/opcode_table.json, named by the
row's tag (spec/30_encoding.md R66) with its first word in lower case. `mX` stands for `(X)`, `mHLI` for `(HL+)`, `mHLD` for
`(HL-)`. After each constructor: the opcode byte or CB sub-opcode, the mnemonic of the spec, its rule.
An immediate is the value the decoder assembles from the operand bytes (R59); `e` is the raw byte of a displacement.
The rows with an immediate come first, the others after them, each in the table's order (Lean compiles a constructor with
an argument only among the first 244). -/

namespace Sys2Proof

/-- One decoded instruction (R77: an operation and its operands, immediates filled in).
`prefix_CB sub` is the row of the prefix byte: 0xCB read together with its sub-opcode, before the CB table is consulted
(R167). The decoder never answers it, since those bytes are an instruction of the CB table.
`stop pad` holds STOP's padding byte where STOP_LEN gives it one (R162). -/
inductive Instr where
  | ld_BC_n16 (n : Addr)  -- 01  LD BC,n16  R124
  | ld_B_n8 (n : Byte)  -- 06  LD B,n8  R106
  | ld_ma16_SP (a : Addr)  -- 08  LD (a16),SP  R125
  | ld_C_n8 (n : Byte)  -- 0E  LD C,n8  R106
  | stop (pad : Option Byte)  -- 10  STOP  R162
  | ld_DE_n16 (n : Addr)  -- 11  LD DE,n16  R124
  | ld_D_n8 (n : Byte)  -- 16  LD D,n8  R106
  | jr_e8 (e : Byte)  -- 18  JR e8  R136
  | ld_E_n8 (n : Byte)  -- 1E  LD E,n8  R106
  | jr_NZ_e8 (e : Byte)  -- 20  JR NZ,e8  R137
  | ld_HL_n16 (n : Addr)  -- 21  LD HL,n16  R124
  | ld_H_n8 (n : Byte)  -- 26  LD H,n8  R106
  | jr_Z_e8 (e : Byte)  -- 28  JR Z,e8  R137
  | ld_L_n8 (n : Byte)  -- 2E  LD L,n8  R106
  | jr_NC_e8 (e : Byte)  -- 30  JR NC,e8  R137
  | ld_SP_n16 (n : Addr)  -- 31  LD SP,n16  R124
  | ld_mHL_n8 (n : Byte)  -- 36  LD (HL),n8  R109
  | jr_C_e8 (e : Byte)  -- 38  JR C,e8  R137
  | ld_A_n8 (n : Byte)  -- 3E  LD A,n8  R106
  | jp_NZ_a16 (a : Addr)  -- C2  JP NZ,a16  R134
  | jp_a16 (a : Addr)  -- C3  JP a16  R133
  | call_NZ_a16 (a : Addr)  -- C4  CALL NZ,a16  R139
  | add_A_n8 (n : Byte)  -- C6  ADD A,n8  R83
  | jp_Z_a16 (a : Addr)  -- CA  JP Z,a16  R134
  | prefix_CB (sub : Byte)  -- CB  PREFIX CB  R167
  | call_Z_a16 (a : Addr)  -- CC  CALL Z,a16  R139
  | call_a16 (a : Addr)  -- CD  CALL a16  R138
  | adc_A_n8 (n : Byte)  -- CE  ADC A,n8  R84
  | jp_NC_a16 (a : Addr)  -- D2  JP NC,a16  R134
  | call_NC_a16 (a : Addr)  -- D4  CALL NC,a16  R139
  | sub_A_n8 (n : Byte)  -- D6  SUB A,n8  R85
  | jp_C_a16 (a : Addr)  -- DA  JP C,a16  R134
  | call_C_a16 (a : Addr)  -- DC  CALL C,a16  R139
  | sbc_A_n8 (n : Byte)  -- DE  SBC A,n8  R86
  | ldh_ma8_A (a : Byte)  -- E0  LDH (a8),A  R120
  | and_A_n8 (n : Byte)  -- E6  AND A,n8  R87
  | add_SP_e8 (e : Byte)  -- E8  ADD SP,e8  R103
  | ld_ma16_A (a : Addr)  -- EA  LD (a16),A  R118
  | xor_A_n8 (n : Byte)  -- EE  XOR A,n8  R88
  | ldh_A_ma8 (a : Byte)  -- F0  LDH A,(a8)  R121
  | or_A_n8 (n : Byte)  -- F6  OR A,n8  R89
  | ld_HL_SPe8 (e : Byte)  -- F8  LD HL,SP+e8  R104
  | ld_A_ma16 (a : Addr)  -- FA  LD A,(a16)  R119
  | cp_A_n8 (n : Byte)  -- FE  CP A,n8  R90
  | nop  -- 00  NOP  R160
  | ld_mBC_A  -- 02  LD (BC),A  R112
  | inc_BC  -- 03  INC BC  R101
  | inc_B  -- 04  INC B  R91
  | dec_B  -- 05  DEC B  R93
  | rlca  -- 07  RLCA  R144
  | add_HL_BC  -- 09  ADD HL,BC  R100
  | ld_A_mBC  -- 0A  LD A,(BC)  R110
  | dec_BC  -- 0B  DEC BC  R102
  | inc_C  -- 0C  INC C  R91
  | dec_C  -- 0D  DEC C  R93
  | rrca  -- 0F  RRCA  R145
  | ld_mDE_A  -- 12  LD (DE),A  R113
  | inc_DE  -- 13  INC DE  R101
  | inc_D  -- 14  INC D  R91
  | dec_D  -- 15  DEC D  R93
  | rla  -- 17  RLA  R146
  | add_HL_DE  -- 19  ADD HL,DE  R100
  | ld_A_mDE  -- 1A  LD A,(DE)  R111
  | dec_DE  -- 1B  DEC DE  R102
  | inc_E  -- 1C  INC E  R91
  | dec_E  -- 1D  DEC E  R93
  | rra  -- 1F  RRA  R147
  | ld_mHLI_A  -- 22  LD (HL+),A  R114
  | inc_HL  -- 23  INC HL  R101
  | inc_H  -- 24  INC H  R91
  | dec_H  -- 25  DEC H  R93
  | daa  -- 27  DAA  R95
  | add_HL_HL  -- 29  ADD HL,HL  R100
  | ld_A_mHLI  -- 2A  LD A,(HL+)  R116
  | dec_HL  -- 2B  DEC HL  R102
  | inc_L  -- 2C  INC L  R91
  | dec_L  -- 2D  DEC L  R93
  | cpl  -- 2F  CPL  R96
  | ld_mHLD_A  -- 32  LD (HL-),A  R115
  | inc_SP  -- 33  INC SP  R101
  | inc_mHL  -- 34  INC (HL)  R92
  | dec_mHL  -- 35  DEC (HL)  R94
  | scf  -- 37  SCF  R97
  | add_HL_SP  -- 39  ADD HL,SP  R100
  | ld_A_mHLD  -- 3A  LD A,(HL-)  R117
  | dec_SP  -- 3B  DEC SP  R102
  | inc_A  -- 3C  INC A  R91
  | dec_A  -- 3D  DEC A  R93
  | ccf  -- 3F  CCF  R98
  | ld_B_B  -- 40  LD B,B  R105
  | ld_B_C  -- 41  LD B,C  R105
  | ld_B_D  -- 42  LD B,D  R105
  | ld_B_E  -- 43  LD B,E  R105
  | ld_B_H  -- 44  LD B,H  R105
  | ld_B_L  -- 45  LD B,L  R105
  | ld_B_mHL  -- 46  LD B,(HL)  R107
  | ld_B_A  -- 47  LD B,A  R105
  | ld_C_B  -- 48  LD C,B  R105
  | ld_C_C  -- 49  LD C,C  R105
  | ld_C_D  -- 4A  LD C,D  R105
  | ld_C_E  -- 4B  LD C,E  R105
  | ld_C_H  -- 4C  LD C,H  R105
  | ld_C_L  -- 4D  LD C,L  R105
  | ld_C_mHL  -- 4E  LD C,(HL)  R107
  | ld_C_A  -- 4F  LD C,A  R105
  | ld_D_B  -- 50  LD D,B  R105
  | ld_D_C  -- 51  LD D,C  R105
  | ld_D_D  -- 52  LD D,D  R105
  | ld_D_E  -- 53  LD D,E  R105
  | ld_D_H  -- 54  LD D,H  R105
  | ld_D_L  -- 55  LD D,L  R105
  | ld_D_mHL  -- 56  LD D,(HL)  R107
  | ld_D_A  -- 57  LD D,A  R105
  | ld_E_B  -- 58  LD E,B  R105
  | ld_E_C  -- 59  LD E,C  R105
  | ld_E_D  -- 5A  LD E,D  R105
  | ld_E_E  -- 5B  LD E,E  R105
  | ld_E_H  -- 5C  LD E,H  R105
  | ld_E_L  -- 5D  LD E,L  R105
  | ld_E_mHL  -- 5E  LD E,(HL)  R107
  | ld_E_A  -- 5F  LD E,A  R105
  | ld_H_B  -- 60  LD H,B  R105
  | ld_H_C  -- 61  LD H,C  R105
  | ld_H_D  -- 62  LD H,D  R105
  | ld_H_E  -- 63  LD H,E  R105
  | ld_H_H  -- 64  LD H,H  R105
  | ld_H_L  -- 65  LD H,L  R105
  | ld_H_mHL  -- 66  LD H,(HL)  R107
  | ld_H_A  -- 67  LD H,A  R105
  | ld_L_B  -- 68  LD L,B  R105
  | ld_L_C  -- 69  LD L,C  R105
  | ld_L_D  -- 6A  LD L,D  R105
  | ld_L_E  -- 6B  LD L,E  R105
  | ld_L_H  -- 6C  LD L,H  R105
  | ld_L_L  -- 6D  LD L,L  R105
  | ld_L_mHL  -- 6E  LD L,(HL)  R107
  | ld_L_A  -- 6F  LD L,A  R105
  | ld_mHL_B  -- 70  LD (HL),B  R108
  | ld_mHL_C  -- 71  LD (HL),C  R108
  | ld_mHL_D  -- 72  LD (HL),D  R108
  | ld_mHL_E  -- 73  LD (HL),E  R108
  | ld_mHL_H  -- 74  LD (HL),H  R108
  | ld_mHL_L  -- 75  LD (HL),L  R108
  | halt  -- 76  HALT  R161
  | ld_mHL_A  -- 77  LD (HL),A  R108
  | ld_A_B  -- 78  LD A,B  R105
  | ld_A_C  -- 79  LD A,C  R105
  | ld_A_D  -- 7A  LD A,D  R105
  | ld_A_E  -- 7B  LD A,E  R105
  | ld_A_H  -- 7C  LD A,H  R105
  | ld_A_L  -- 7D  LD A,L  R105
  | ld_A_mHL  -- 7E  LD A,(HL)  R107
  | ld_A_A  -- 7F  LD A,A  R105
  | add_A_B  -- 80  ADD A,B  R83
  | add_A_C  -- 81  ADD A,C  R83
  | add_A_D  -- 82  ADD A,D  R83
  | add_A_E  -- 83  ADD A,E  R83
  | add_A_H  -- 84  ADD A,H  R83
  | add_A_L  -- 85  ADD A,L  R83
  | add_A_mHL  -- 86  ADD A,(HL)  R83
  | add_A_A  -- 87  ADD A,A  R83
  | adc_A_B  -- 88  ADC A,B  R84
  | adc_A_C  -- 89  ADC A,C  R84
  | adc_A_D  -- 8A  ADC A,D  R84
  | adc_A_E  -- 8B  ADC A,E  R84
  | adc_A_H  -- 8C  ADC A,H  R84
  | adc_A_L  -- 8D  ADC A,L  R84
  | adc_A_mHL  -- 8E  ADC A,(HL)  R84
  | adc_A_A  -- 8F  ADC A,A  R84
  | sub_A_B  -- 90  SUB A,B  R85
  | sub_A_C  -- 91  SUB A,C  R85
  | sub_A_D  -- 92  SUB A,D  R85
  | sub_A_E  -- 93  SUB A,E  R85
  | sub_A_H  -- 94  SUB A,H  R85
  | sub_A_L  -- 95  SUB A,L  R85
  | sub_A_mHL  -- 96  SUB A,(HL)  R85
  | sub_A_A  -- 97  SUB A,A  R85
  | sbc_A_B  -- 98  SBC A,B  R86
  | sbc_A_C  -- 99  SBC A,C  R86
  | sbc_A_D  -- 9A  SBC A,D  R86
  | sbc_A_E  -- 9B  SBC A,E  R86
  | sbc_A_H  -- 9C  SBC A,H  R86
  | sbc_A_L  -- 9D  SBC A,L  R86
  | sbc_A_mHL  -- 9E  SBC A,(HL)  R86
  | sbc_A_A  -- 9F  SBC A,A  R86
  | and_A_B  -- A0  AND A,B  R87
  | and_A_C  -- A1  AND A,C  R87
  | and_A_D  -- A2  AND A,D  R87
  | and_A_E  -- A3  AND A,E  R87
  | and_A_H  -- A4  AND A,H  R87
  | and_A_L  -- A5  AND A,L  R87
  | and_A_mHL  -- A6  AND A,(HL)  R87
  | and_A_A  -- A7  AND A,A  R87
  | xor_A_B  -- A8  XOR A,B  R88
  | xor_A_C  -- A9  XOR A,C  R88
  | xor_A_D  -- AA  XOR A,D  R88
  | xor_A_E  -- AB  XOR A,E  R88
  | xor_A_H  -- AC  XOR A,H  R88
  | xor_A_L  -- AD  XOR A,L  R88
  | xor_A_mHL  -- AE  XOR A,(HL)  R88
  | xor_A_A  -- AF  XOR A,A  R88
  | or_A_B  -- B0  OR A,B  R89
  | or_A_C  -- B1  OR A,C  R89
  | or_A_D  -- B2  OR A,D  R89
  | or_A_E  -- B3  OR A,E  R89
  | or_A_H  -- B4  OR A,H  R89
  | or_A_L  -- B5  OR A,L  R89
  | or_A_mHL  -- B6  OR A,(HL)  R89
  | or_A_A  -- B7  OR A,A  R89
  | cp_A_B  -- B8  CP A,B  R90
  | cp_A_C  -- B9  CP A,C  R90
  | cp_A_D  -- BA  CP A,D  R90
  | cp_A_E  -- BB  CP A,E  R90
  | cp_A_H  -- BC  CP A,H  R90
  | cp_A_L  -- BD  CP A,L  R90
  | cp_A_mHL  -- BE  CP A,(HL)  R90
  | cp_A_A  -- BF  CP A,A  R90
  | ret_NZ  -- C0  RET NZ  R141
  | pop_BC  -- C1  POP BC  R130
  | push_BC  -- C5  PUSH BC  R129
  | rst_00  -- C7  RST $00  R142
  | ret_Z  -- C8  RET Z  R141
  | ret  -- C9  RET  R140
  | rst_08  -- CF  RST $08  R142
  | ret_NC  -- D0  RET NC  R141
  | pop_DE  -- D1  POP DE  R130
  | illegal_D3  -- D3  ILLEGAL_D3  R166
  | push_DE  -- D5  PUSH DE  R129
  | rst_10  -- D7  RST $10  R142
  | ret_C  -- D8  RET C  R141
  | reti  -- D9  RETI  R165
  | illegal_DB  -- DB  ILLEGAL_DB  R166
  | illegal_DD  -- DD  ILLEGAL_DD  R166
  | rst_18  -- DF  RST $18  R142
  | pop_HL  -- E1  POP HL  R130
  | ld_mC_A  -- E2  LD (C),A  R122
  | illegal_E3  -- E3  ILLEGAL_E3  R166
  | illegal_E4  -- E4  ILLEGAL_E4  R166
  | push_HL  -- E5  PUSH HL  R129
  | rst_20  -- E7  RST $20  R142
  | jp_HL  -- E9  JP HL  R135
  | illegal_EB  -- EB  ILLEGAL_EB  R166
  | illegal_EC  -- EC  ILLEGAL_EC  R166
  | illegal_ED  -- ED  ILLEGAL_ED  R166
  | rst_28  -- EF  RST $28  R142
  | pop_AF  -- F1  POP AF  R131
  | ld_A_mC  -- F2  LD A,(C)  R123
  | di  -- F3  DI  R163
  | illegal_F4  -- F4  ILLEGAL_F4  R166
  | push_AF  -- F5  PUSH AF  R129
  | rst_30  -- F7  RST $30  R142
  | ld_SP_HL  -- F9  LD SP,HL  R126
  | ei  -- FB  EI  R164
  | illegal_FC  -- FC  ILLEGAL_FC  R166
  | illegal_FD  -- FD  ILLEGAL_FD  R166
  | rst_38  -- FF  RST $38  R142
  | rlc_B  -- CB 00  RLC B  R149
  | rlc_C  -- CB 01  RLC C  R149
  | rlc_D  -- CB 02  RLC D  R149
  | rlc_E  -- CB 03  RLC E  R149
  | rlc_H  -- CB 04  RLC H  R149
  | rlc_L  -- CB 05  RLC L  R149
  | rlc_mHL  -- CB 06  RLC (HL)  R149
  | rlc_A  -- CB 07  RLC A  R149
  | rrc_B  -- CB 08  RRC B  R150
  | rrc_C  -- CB 09  RRC C  R150
  | rrc_D  -- CB 0A  RRC D  R150
  | rrc_E  -- CB 0B  RRC E  R150
  | rrc_H  -- CB 0C  RRC H  R150
  | rrc_L  -- CB 0D  RRC L  R150
  | rrc_mHL  -- CB 0E  RRC (HL)  R150
  | rrc_A  -- CB 0F  RRC A  R150
  | rl_B  -- CB 10  RL B  R151
  | rl_C  -- CB 11  RL C  R151
  | rl_D  -- CB 12  RL D  R151
  | rl_E  -- CB 13  RL E  R151
  | rl_H  -- CB 14  RL H  R151
  | rl_L  -- CB 15  RL L  R151
  | rl_mHL  -- CB 16  RL (HL)  R151
  | rl_A  -- CB 17  RL A  R151
  | rr_B  -- CB 18  RR B  R152
  | rr_C  -- CB 19  RR C  R152
  | rr_D  -- CB 1A  RR D  R152
  | rr_E  -- CB 1B  RR E  R152
  | rr_H  -- CB 1C  RR H  R152
  | rr_L  -- CB 1D  RR L  R152
  | rr_mHL  -- CB 1E  RR (HL)  R152
  | rr_A  -- CB 1F  RR A  R152
  | sla_B  -- CB 20  SLA B  R153
  | sla_C  -- CB 21  SLA C  R153
  | sla_D  -- CB 22  SLA D  R153
  | sla_E  -- CB 23  SLA E  R153
  | sla_H  -- CB 24  SLA H  R153
  | sla_L  -- CB 25  SLA L  R153
  | sla_mHL  -- CB 26  SLA (HL)  R153
  | sla_A  -- CB 27  SLA A  R153
  | sra_B  -- CB 28  SRA B  R154
  | sra_C  -- CB 29  SRA C  R154
  | sra_D  -- CB 2A  SRA D  R154
  | sra_E  -- CB 2B  SRA E  R154
  | sra_H  -- CB 2C  SRA H  R154
  | sra_L  -- CB 2D  SRA L  R154
  | sra_mHL  -- CB 2E  SRA (HL)  R154
  | sra_A  -- CB 2F  SRA A  R154
  | swap_B  -- CB 30  SWAP B  R155
  | swap_C  -- CB 31  SWAP C  R155
  | swap_D  -- CB 32  SWAP D  R155
  | swap_E  -- CB 33  SWAP E  R155
  | swap_H  -- CB 34  SWAP H  R155
  | swap_L  -- CB 35  SWAP L  R155
  | swap_mHL  -- CB 36  SWAP (HL)  R155
  | swap_A  -- CB 37  SWAP A  R155
  | srl_B  -- CB 38  SRL B  R156
  | srl_C  -- CB 39  SRL C  R156
  | srl_D  -- CB 3A  SRL D  R156
  | srl_E  -- CB 3B  SRL E  R156
  | srl_H  -- CB 3C  SRL H  R156
  | srl_L  -- CB 3D  SRL L  R156
  | srl_mHL  -- CB 3E  SRL (HL)  R156
  | srl_A  -- CB 3F  SRL A  R156
  | bit_0_B  -- CB 40  BIT 0,B  R157
  | bit_0_C  -- CB 41  BIT 0,C  R157
  | bit_0_D  -- CB 42  BIT 0,D  R157
  | bit_0_E  -- CB 43  BIT 0,E  R157
  | bit_0_H  -- CB 44  BIT 0,H  R157
  | bit_0_L  -- CB 45  BIT 0,L  R157
  | bit_0_mHL  -- CB 46  BIT 0,(HL)  R157
  | bit_0_A  -- CB 47  BIT 0,A  R157
  | bit_1_B  -- CB 48  BIT 1,B  R157
  | bit_1_C  -- CB 49  BIT 1,C  R157
  | bit_1_D  -- CB 4A  BIT 1,D  R157
  | bit_1_E  -- CB 4B  BIT 1,E  R157
  | bit_1_H  -- CB 4C  BIT 1,H  R157
  | bit_1_L  -- CB 4D  BIT 1,L  R157
  | bit_1_mHL  -- CB 4E  BIT 1,(HL)  R157
  | bit_1_A  -- CB 4F  BIT 1,A  R157
  | bit_2_B  -- CB 50  BIT 2,B  R157
  | bit_2_C  -- CB 51  BIT 2,C  R157
  | bit_2_D  -- CB 52  BIT 2,D  R157
  | bit_2_E  -- CB 53  BIT 2,E  R157
  | bit_2_H  -- CB 54  BIT 2,H  R157
  | bit_2_L  -- CB 55  BIT 2,L  R157
  | bit_2_mHL  -- CB 56  BIT 2,(HL)  R157
  | bit_2_A  -- CB 57  BIT 2,A  R157
  | bit_3_B  -- CB 58  BIT 3,B  R157
  | bit_3_C  -- CB 59  BIT 3,C  R157
  | bit_3_D  -- CB 5A  BIT 3,D  R157
  | bit_3_E  -- CB 5B  BIT 3,E  R157
  | bit_3_H  -- CB 5C  BIT 3,H  R157
  | bit_3_L  -- CB 5D  BIT 3,L  R157
  | bit_3_mHL  -- CB 5E  BIT 3,(HL)  R157
  | bit_3_A  -- CB 5F  BIT 3,A  R157
  | bit_4_B  -- CB 60  BIT 4,B  R157
  | bit_4_C  -- CB 61  BIT 4,C  R157
  | bit_4_D  -- CB 62  BIT 4,D  R157
  | bit_4_E  -- CB 63  BIT 4,E  R157
  | bit_4_H  -- CB 64  BIT 4,H  R157
  | bit_4_L  -- CB 65  BIT 4,L  R157
  | bit_4_mHL  -- CB 66  BIT 4,(HL)  R157
  | bit_4_A  -- CB 67  BIT 4,A  R157
  | bit_5_B  -- CB 68  BIT 5,B  R157
  | bit_5_C  -- CB 69  BIT 5,C  R157
  | bit_5_D  -- CB 6A  BIT 5,D  R157
  | bit_5_E  -- CB 6B  BIT 5,E  R157
  | bit_5_H  -- CB 6C  BIT 5,H  R157
  | bit_5_L  -- CB 6D  BIT 5,L  R157
  | bit_5_mHL  -- CB 6E  BIT 5,(HL)  R157
  | bit_5_A  -- CB 6F  BIT 5,A  R157
  | bit_6_B  -- CB 70  BIT 6,B  R157
  | bit_6_C  -- CB 71  BIT 6,C  R157
  | bit_6_D  -- CB 72  BIT 6,D  R157
  | bit_6_E  -- CB 73  BIT 6,E  R157
  | bit_6_H  -- CB 74  BIT 6,H  R157
  | bit_6_L  -- CB 75  BIT 6,L  R157
  | bit_6_mHL  -- CB 76  BIT 6,(HL)  R157
  | bit_6_A  -- CB 77  BIT 6,A  R157
  | bit_7_B  -- CB 78  BIT 7,B  R157
  | bit_7_C  -- CB 79  BIT 7,C  R157
  | bit_7_D  -- CB 7A  BIT 7,D  R157
  | bit_7_E  -- CB 7B  BIT 7,E  R157
  | bit_7_H  -- CB 7C  BIT 7,H  R157
  | bit_7_L  -- CB 7D  BIT 7,L  R157
  | bit_7_mHL  -- CB 7E  BIT 7,(HL)  R157
  | bit_7_A  -- CB 7F  BIT 7,A  R157
  | res_0_B  -- CB 80  RES 0,B  R158
  | res_0_C  -- CB 81  RES 0,C  R158
  | res_0_D  -- CB 82  RES 0,D  R158
  | res_0_E  -- CB 83  RES 0,E  R158
  | res_0_H  -- CB 84  RES 0,H  R158
  | res_0_L  -- CB 85  RES 0,L  R158
  | res_0_mHL  -- CB 86  RES 0,(HL)  R158
  | res_0_A  -- CB 87  RES 0,A  R158
  | res_1_B  -- CB 88  RES 1,B  R158
  | res_1_C  -- CB 89  RES 1,C  R158
  | res_1_D  -- CB 8A  RES 1,D  R158
  | res_1_E  -- CB 8B  RES 1,E  R158
  | res_1_H  -- CB 8C  RES 1,H  R158
  | res_1_L  -- CB 8D  RES 1,L  R158
  | res_1_mHL  -- CB 8E  RES 1,(HL)  R158
  | res_1_A  -- CB 8F  RES 1,A  R158
  | res_2_B  -- CB 90  RES 2,B  R158
  | res_2_C  -- CB 91  RES 2,C  R158
  | res_2_D  -- CB 92  RES 2,D  R158
  | res_2_E  -- CB 93  RES 2,E  R158
  | res_2_H  -- CB 94  RES 2,H  R158
  | res_2_L  -- CB 95  RES 2,L  R158
  | res_2_mHL  -- CB 96  RES 2,(HL)  R158
  | res_2_A  -- CB 97  RES 2,A  R158
  | res_3_B  -- CB 98  RES 3,B  R158
  | res_3_C  -- CB 99  RES 3,C  R158
  | res_3_D  -- CB 9A  RES 3,D  R158
  | res_3_E  -- CB 9B  RES 3,E  R158
  | res_3_H  -- CB 9C  RES 3,H  R158
  | res_3_L  -- CB 9D  RES 3,L  R158
  | res_3_mHL  -- CB 9E  RES 3,(HL)  R158
  | res_3_A  -- CB 9F  RES 3,A  R158
  | res_4_B  -- CB A0  RES 4,B  R158
  | res_4_C  -- CB A1  RES 4,C  R158
  | res_4_D  -- CB A2  RES 4,D  R158
  | res_4_E  -- CB A3  RES 4,E  R158
  | res_4_H  -- CB A4  RES 4,H  R158
  | res_4_L  -- CB A5  RES 4,L  R158
  | res_4_mHL  -- CB A6  RES 4,(HL)  R158
  | res_4_A  -- CB A7  RES 4,A  R158
  | res_5_B  -- CB A8  RES 5,B  R158
  | res_5_C  -- CB A9  RES 5,C  R158
  | res_5_D  -- CB AA  RES 5,D  R158
  | res_5_E  -- CB AB  RES 5,E  R158
  | res_5_H  -- CB AC  RES 5,H  R158
  | res_5_L  -- CB AD  RES 5,L  R158
  | res_5_mHL  -- CB AE  RES 5,(HL)  R158
  | res_5_A  -- CB AF  RES 5,A  R158
  | res_6_B  -- CB B0  RES 6,B  R158
  | res_6_C  -- CB B1  RES 6,C  R158
  | res_6_D  -- CB B2  RES 6,D  R158
  | res_6_E  -- CB B3  RES 6,E  R158
  | res_6_H  -- CB B4  RES 6,H  R158
  | res_6_L  -- CB B5  RES 6,L  R158
  | res_6_mHL  -- CB B6  RES 6,(HL)  R158
  | res_6_A  -- CB B7  RES 6,A  R158
  | res_7_B  -- CB B8  RES 7,B  R158
  | res_7_C  -- CB B9  RES 7,C  R158
  | res_7_D  -- CB BA  RES 7,D  R158
  | res_7_E  -- CB BB  RES 7,E  R158
  | res_7_H  -- CB BC  RES 7,H  R158
  | res_7_L  -- CB BD  RES 7,L  R158
  | res_7_mHL  -- CB BE  RES 7,(HL)  R158
  | res_7_A  -- CB BF  RES 7,A  R158
  | set_0_B  -- CB C0  SET 0,B  R159
  | set_0_C  -- CB C1  SET 0,C  R159
  | set_0_D  -- CB C2  SET 0,D  R159
  | set_0_E  -- CB C3  SET 0,E  R159
  | set_0_H  -- CB C4  SET 0,H  R159
  | set_0_L  -- CB C5  SET 0,L  R159
  | set_0_mHL  -- CB C6  SET 0,(HL)  R159
  | set_0_A  -- CB C7  SET 0,A  R159
  | set_1_B  -- CB C8  SET 1,B  R159
  | set_1_C  -- CB C9  SET 1,C  R159
  | set_1_D  -- CB CA  SET 1,D  R159
  | set_1_E  -- CB CB  SET 1,E  R159
  | set_1_H  -- CB CC  SET 1,H  R159
  | set_1_L  -- CB CD  SET 1,L  R159
  | set_1_mHL  -- CB CE  SET 1,(HL)  R159
  | set_1_A  -- CB CF  SET 1,A  R159
  | set_2_B  -- CB D0  SET 2,B  R159
  | set_2_C  -- CB D1  SET 2,C  R159
  | set_2_D  -- CB D2  SET 2,D  R159
  | set_2_E  -- CB D3  SET 2,E  R159
  | set_2_H  -- CB D4  SET 2,H  R159
  | set_2_L  -- CB D5  SET 2,L  R159
  | set_2_mHL  -- CB D6  SET 2,(HL)  R159
  | set_2_A  -- CB D7  SET 2,A  R159
  | set_3_B  -- CB D8  SET 3,B  R159
  | set_3_C  -- CB D9  SET 3,C  R159
  | set_3_D  -- CB DA  SET 3,D  R159
  | set_3_E  -- CB DB  SET 3,E  R159
  | set_3_H  -- CB DC  SET 3,H  R159
  | set_3_L  -- CB DD  SET 3,L  R159
  | set_3_mHL  -- CB DE  SET 3,(HL)  R159
  | set_3_A  -- CB DF  SET 3,A  R159
  | set_4_B  -- CB E0  SET 4,B  R159
  | set_4_C  -- CB E1  SET 4,C  R159
  | set_4_D  -- CB E2  SET 4,D  R159
  | set_4_E  -- CB E3  SET 4,E  R159
  | set_4_H  -- CB E4  SET 4,H  R159
  | set_4_L  -- CB E5  SET 4,L  R159
  | set_4_mHL  -- CB E6  SET 4,(HL)  R159
  | set_4_A  -- CB E7  SET 4,A  R159
  | set_5_B  -- CB E8  SET 5,B  R159
  | set_5_C  -- CB E9  SET 5,C  R159
  | set_5_D  -- CB EA  SET 5,D  R159
  | set_5_E  -- CB EB  SET 5,E  R159
  | set_5_H  -- CB EC  SET 5,H  R159
  | set_5_L  -- CB ED  SET 5,L  R159
  | set_5_mHL  -- CB EE  SET 5,(HL)  R159
  | set_5_A  -- CB EF  SET 5,A  R159
  | set_6_B  -- CB F0  SET 6,B  R159
  | set_6_C  -- CB F1  SET 6,C  R159
  | set_6_D  -- CB F2  SET 6,D  R159
  | set_6_E  -- CB F3  SET 6,E  R159
  | set_6_H  -- CB F4  SET 6,H  R159
  | set_6_L  -- CB F5  SET 6,L  R159
  | set_6_mHL  -- CB F6  SET 6,(HL)  R159
  | set_6_A  -- CB F7  SET 6,A  R159
  | set_7_B  -- CB F8  SET 7,B  R159
  | set_7_C  -- CB F9  SET 7,C  R159
  | set_7_D  -- CB FA  SET 7,D  R159
  | set_7_E  -- CB FB  SET 7,E  R159
  | set_7_H  -- CB FC  SET 7,H  R159
  | set_7_L  -- CB FD  SET 7,L  R159
  | set_7_mHL  -- CB FE  SET 7,(HL)  R159
  | set_7_A  -- CB FF  SET 7,A  R159
deriving DecidableEq, Repr

end Sys2Proof
end

