-- ==== Sys2Proof/Decode.lean ====
section
/-! DEFINITION. The decoder (spec/30_encoding.md R54 to R65, spec/40_cycle.md R72, R77), total over every opcode byte and
every CB sub-opcode, and the encoder. The decoder reads the fields x, y, z, p, q of R56 and follows the prose map of R61; the
encoder is the table of opcode bytes. Neither is written from the other. -/

namespace Sys2Proof

/-! ## Bytes of a 16-bit value -/

/-- `v[7:0]` (R8). -/
def lowByte (v : Addr) : Byte := v.extractLsb' 0 8

/-- `v[15:8]` (R8). -/
def highByte (v : Addr) : Byte := v.extractLsb' 8 8

/-- `hi : lo`, the 16-bit value of two bytes (R9, R38, R39). -/
def joinBytes (hi lo : Byte) : Addr := hi ++ lo

/-- `sext_8(v)` as a 16-bit two's complement value (R9, R59). -/
def signExtend8 (v : Byte) : Addr := v.signExtend 16

/-! ## Operations: one representation for decoded instructions (R60, R77) -/

/-- The operation of a descriptor with its typed operands (R60, R77): "ONE tagged-variant representation for decoded
instructions (operation + typed operand list)". Each stands for the rows of the opcode table that `Operation.instr` names. -/
inductive Operation where
  | nop
  | ldRegReg (dst src : Reg8)
  | ldRegImm (dst : Reg8) (n : Byte)
  | ldRegMHL (dst : Reg8)
  | ldMHLReg (src : Reg8)
  | ldMHLImm (n : Byte)
  | ldAccInd (p : Indirect)
  | ldIndAcc (p : Indirect)
  | ldAbsAcc (a : Addr)
  | ldAccAbs (a : Addr)
  | ldhAbsAcc (a : Byte)
  | ldhAccAbs (a : Byte)
  | ldPortAcc
  | ldAccPort
  | ldWideImm (p : Wide) (n : Addr)
  | ldAbsSp (a : Addr)
  | ldSpHl
  | ldHlSp (e : Byte)
  | addHl (p : Wide)
  | incWide (p : Wide)
  | decWide (p : Wide)
  | addSp (e : Byte)
  | alu (op : AluOp) (src : Source8)
  | inc (o : Operand8)
  | dec (o : Operand8)
  | accRot (op : AccRotOp)
  | daa
  | cpl
  | scf
  | ccf
  | push (p : Pair)
  | pop (p : Pair)
  | jp (a : Addr)
  | jpIf (cc : Cond) (a : Addr)
  | jpHl
  | jr (e : Byte)
  | jrIf (cc : Cond) (e : Byte)
  | call (a : Addr)
  | callIf (cc : Cond) (a : Addr)
  | ret
  | retIf (cc : Cond)
  | rst (t : Fin 8)
  | rot (op : RotOp) (o : Operand8)
  | bit (b : Fin 8) (o : Operand8)
  | res (b : Fin 8) (o : Operand8)
  | set (b : Fin 8) (o : Operand8)
  | halt
  | stop (pad : Option Byte)
  | di
  | ei
  | reti
  | illegal (h : Hole)
  | prefixCb (sub : Byte)
deriving DecidableEq, Repr

/-! ## The rows of the opcode table, by operation and operands -/

/-- `LD r,r'` (R105). -/
def rowLdRegReg : Reg8 → Reg8 → Instr
  | .b, .b => .ld_B_B
  | .b, .c => .ld_B_C
  | .b, .d => .ld_B_D
  | .b, .e => .ld_B_E
  | .b, .h => .ld_B_H
  | .b, .l => .ld_B_L
  | .b, .a => .ld_B_A
  | .c, .b => .ld_C_B
  | .c, .c => .ld_C_C
  | .c, .d => .ld_C_D
  | .c, .e => .ld_C_E
  | .c, .h => .ld_C_H
  | .c, .l => .ld_C_L
  | .c, .a => .ld_C_A
  | .d, .b => .ld_D_B
  | .d, .c => .ld_D_C
  | .d, .d => .ld_D_D
  | .d, .e => .ld_D_E
  | .d, .h => .ld_D_H
  | .d, .l => .ld_D_L
  | .d, .a => .ld_D_A
  | .e, .b => .ld_E_B
  | .e, .c => .ld_E_C
  | .e, .d => .ld_E_D
  | .e, .e => .ld_E_E
  | .e, .h => .ld_E_H
  | .e, .l => .ld_E_L
  | .e, .a => .ld_E_A
  | .h, .b => .ld_H_B
  | .h, .c => .ld_H_C
  | .h, .d => .ld_H_D
  | .h, .e => .ld_H_E
  | .h, .h => .ld_H_H
  | .h, .l => .ld_H_L
  | .h, .a => .ld_H_A
  | .l, .b => .ld_L_B
  | .l, .c => .ld_L_C
  | .l, .d => .ld_L_D
  | .l, .e => .ld_L_E
  | .l, .h => .ld_L_H
  | .l, .l => .ld_L_L
  | .l, .a => .ld_L_A
  | .a, .b => .ld_A_B
  | .a, .c => .ld_A_C
  | .a, .d => .ld_A_D
  | .a, .e => .ld_A_E
  | .a, .h => .ld_A_H
  | .a, .l => .ld_A_L
  | .a, .a => .ld_A_A

/-- `LD r,n8` (R106). -/
def rowLdRegImm (n : Byte) : Reg8 → Instr
  | .b => .ld_B_n8 n
  | .c => .ld_C_n8 n
  | .d => .ld_D_n8 n
  | .e => .ld_E_n8 n
  | .h => .ld_H_n8 n
  | .l => .ld_L_n8 n
  | .a => .ld_A_n8 n

/-- `LD r,(HL)` (R107). -/
def rowLdRegMHL : Reg8 → Instr
  | .b => .ld_B_mHL
  | .c => .ld_C_mHL
  | .d => .ld_D_mHL
  | .e => .ld_E_mHL
  | .h => .ld_H_mHL
  | .l => .ld_L_mHL
  | .a => .ld_A_mHL

/-- `LD (HL),r` (R108). -/
def rowLdMHLReg : Reg8 → Instr
  | .b => .ld_mHL_B
  | .c => .ld_mHL_C
  | .d => .ld_mHL_D
  | .e => .ld_mHL_E
  | .h => .ld_mHL_H
  | .l => .ld_mHL_L
  | .a => .ld_mHL_A

/-- `LD A,(BC)`, `LD A,(DE)`, `LD A,(HL+)`, `LD A,(HL-)` (R110, R111, R116, R117). -/
def rowLdAccInd : Indirect → Instr
  | .bc => .ld_A_mBC
  | .de => .ld_A_mDE
  | .hlInc => .ld_A_mHLI
  | .hlDec => .ld_A_mHLD

/-- `LD (BC),A`, `LD (DE),A`, `LD (HL+),A`, `LD (HL-),A` (R112 to R115). -/
def rowLdIndAcc : Indirect → Instr
  | .bc => .ld_mBC_A
  | .de => .ld_mDE_A
  | .hlInc => .ld_mHLI_A
  | .hlDec => .ld_mHLD_A

/-- `LD rr,n16` (R124). -/
def rowLdWideImm (n : Addr) : Wide → Instr
  | .bc => .ld_BC_n16 n
  | .de => .ld_DE_n16 n
  | .hl => .ld_HL_n16 n
  | .sp => .ld_SP_n16 n

/-- `ADD HL,rr` (R100). -/
def rowAddHl : Wide → Instr
  | .bc => .add_HL_BC
  | .de => .add_HL_DE
  | .hl => .add_HL_HL
  | .sp => .add_HL_SP

/-- `INC rr` (R101). -/
def rowIncWide : Wide → Instr
  | .bc => .inc_BC
  | .de => .inc_DE
  | .hl => .inc_HL
  | .sp => .inc_SP

/-- `DEC rr` (R102). -/
def rowDecWide : Wide → Instr
  | .bc => .dec_BC
  | .de => .dec_DE
  | .hl => .dec_HL
  | .sp => .dec_SP

/-- The two-operand accumulator operations (R83 to R90). -/
def rowAlu : AluOp → Source8 → Instr
  | .add, .reg .b => .add_A_B
  | .add, .reg .c => .add_A_C
  | .add, .reg .d => .add_A_D
  | .add, .reg .e => .add_A_E
  | .add, .reg .h => .add_A_H
  | .add, .reg .l => .add_A_L
  | .add, .mHL => .add_A_mHL
  | .add, .reg .a => .add_A_A
  | .adc, .reg .b => .adc_A_B
  | .adc, .reg .c => .adc_A_C
  | .adc, .reg .d => .adc_A_D
  | .adc, .reg .e => .adc_A_E
  | .adc, .reg .h => .adc_A_H
  | .adc, .reg .l => .adc_A_L
  | .adc, .mHL => .adc_A_mHL
  | .adc, .reg .a => .adc_A_A
  | .sub, .reg .b => .sub_A_B
  | .sub, .reg .c => .sub_A_C
  | .sub, .reg .d => .sub_A_D
  | .sub, .reg .e => .sub_A_E
  | .sub, .reg .h => .sub_A_H
  | .sub, .reg .l => .sub_A_L
  | .sub, .mHL => .sub_A_mHL
  | .sub, .reg .a => .sub_A_A
  | .sbc, .reg .b => .sbc_A_B
  | .sbc, .reg .c => .sbc_A_C
  | .sbc, .reg .d => .sbc_A_D
  | .sbc, .reg .e => .sbc_A_E
  | .sbc, .reg .h => .sbc_A_H
  | .sbc, .reg .l => .sbc_A_L
  | .sbc, .mHL => .sbc_A_mHL
  | .sbc, .reg .a => .sbc_A_A
  | .and, .reg .b => .and_A_B
  | .and, .reg .c => .and_A_C
  | .and, .reg .d => .and_A_D
  | .and, .reg .e => .and_A_E
  | .and, .reg .h => .and_A_H
  | .and, .reg .l => .and_A_L
  | .and, .mHL => .and_A_mHL
  | .and, .reg .a => .and_A_A
  | .xor, .reg .b => .xor_A_B
  | .xor, .reg .c => .xor_A_C
  | .xor, .reg .d => .xor_A_D
  | .xor, .reg .e => .xor_A_E
  | .xor, .reg .h => .xor_A_H
  | .xor, .reg .l => .xor_A_L
  | .xor, .mHL => .xor_A_mHL
  | .xor, .reg .a => .xor_A_A
  | .or, .reg .b => .or_A_B
  | .or, .reg .c => .or_A_C
  | .or, .reg .d => .or_A_D
  | .or, .reg .e => .or_A_E
  | .or, .reg .h => .or_A_H
  | .or, .reg .l => .or_A_L
  | .or, .mHL => .or_A_mHL
  | .or, .reg .a => .or_A_A
  | .cp, .reg .b => .cp_A_B
  | .cp, .reg .c => .cp_A_C
  | .cp, .reg .d => .cp_A_D
  | .cp, .reg .e => .cp_A_E
  | .cp, .reg .h => .cp_A_H
  | .cp, .reg .l => .cp_A_L
  | .cp, .mHL => .cp_A_mHL
  | .cp, .reg .a => .cp_A_A
  | .add, .imm n => .add_A_n8 n
  | .adc, .imm n => .adc_A_n8 n
  | .sub, .imm n => .sub_A_n8 n
  | .sbc, .imm n => .sbc_A_n8 n
  | .and, .imm n => .and_A_n8 n
  | .xor, .imm n => .xor_A_n8 n
  | .or, .imm n => .or_A_n8 n
  | .cp, .imm n => .cp_A_n8 n

/-- `INC r` and `INC (HL)` (R91, R92). -/
def rowInc : Operand8 → Instr
  | .reg .b => .inc_B
  | .reg .c => .inc_C
  | .reg .d => .inc_D
  | .reg .e => .inc_E
  | .reg .h => .inc_H
  | .reg .l => .inc_L
  | .mHL => .inc_mHL
  | .reg .a => .inc_A

/-- `DEC r` and `DEC (HL)` (R93, R94). -/
def rowDec : Operand8 → Instr
  | .reg .b => .dec_B
  | .reg .c => .dec_C
  | .reg .d => .dec_D
  | .reg .e => .dec_E
  | .reg .h => .dec_H
  | .reg .l => .dec_L
  | .mHL => .dec_mHL
  | .reg .a => .dec_A

/-- The rotates of A (R144 to R147). -/
def rowAccRot : AccRotOp → Instr
  | .rlca => .rlca
  | .rrca => .rrca
  | .rla => .rla
  | .rra => .rra

/-- `PUSH rr` (R129). -/
def rowPush : Pair → Instr
  | .bc => .push_BC
  | .de => .push_DE
  | .hl => .push_HL
  | .af => .push_AF

/-- `POP rr` and `POP AF` (R130, R131). -/
def rowPop : Pair → Instr
  | .bc => .pop_BC
  | .de => .pop_DE
  | .hl => .pop_HL
  | .af => .pop_AF

/-- `JP cc,a16` (R134). -/
def rowJpIf (a : Addr) : Cond → Instr
  | .nz => .jp_NZ_a16 a
  | .z => .jp_Z_a16 a
  | .nc => .jp_NC_a16 a
  | .c => .jp_C_a16 a

/-- `JR cc,e8` (R137). -/
def rowJrIf (e : Byte) : Cond → Instr
  | .nz => .jr_NZ_e8 e
  | .z => .jr_Z_e8 e
  | .nc => .jr_NC_e8 e
  | .c => .jr_C_e8 e

/-- `CALL cc,a16` (R139). -/
def rowCallIf (a : Addr) : Cond → Instr
  | .nz => .call_NZ_a16 a
  | .z => .call_Z_a16 a
  | .nc => .call_NC_a16 a
  | .c => .call_C_a16 a

/-- `RET cc` (R141). -/
def rowRetIf : Cond → Instr
  | .nz => .ret_NZ
  | .z => .ret_Z
  | .nc => .ret_NC
  | .c => .ret_C

/-- `RST t`, with t = 8·y (R142). -/
def rowRst : Fin 8 → Instr
  | 0 => .rst_00
  | 1 => .rst_08
  | 2 => .rst_10
  | 3 => .rst_18
  | 4 => .rst_20
  | 5 => .rst_28
  | 6 => .rst_30
  | 7 => .rst_38

/-- The rotates and shifts of the CB table (R149 to R156). -/
def rowRot : RotOp → Operand8 → Instr
  | .rlc, .reg .b => .rlc_B
  | .rlc, .reg .c => .rlc_C
  | .rlc, .reg .d => .rlc_D
  | .rlc, .reg .e => .rlc_E
  | .rlc, .reg .h => .rlc_H
  | .rlc, .reg .l => .rlc_L
  | .rlc, .mHL => .rlc_mHL
  | .rlc, .reg .a => .rlc_A
  | .rrc, .reg .b => .rrc_B
  | .rrc, .reg .c => .rrc_C
  | .rrc, .reg .d => .rrc_D
  | .rrc, .reg .e => .rrc_E
  | .rrc, .reg .h => .rrc_H
  | .rrc, .reg .l => .rrc_L
  | .rrc, .mHL => .rrc_mHL
  | .rrc, .reg .a => .rrc_A
  | .rl, .reg .b => .rl_B
  | .rl, .reg .c => .rl_C
  | .rl, .reg .d => .rl_D
  | .rl, .reg .e => .rl_E
  | .rl, .reg .h => .rl_H
  | .rl, .reg .l => .rl_L
  | .rl, .mHL => .rl_mHL
  | .rl, .reg .a => .rl_A
  | .rr, .reg .b => .rr_B
  | .rr, .reg .c => .rr_C
  | .rr, .reg .d => .rr_D
  | .rr, .reg .e => .rr_E
  | .rr, .reg .h => .rr_H
  | .rr, .reg .l => .rr_L
  | .rr, .mHL => .rr_mHL
  | .rr, .reg .a => .rr_A
  | .sla, .reg .b => .sla_B
  | .sla, .reg .c => .sla_C
  | .sla, .reg .d => .sla_D
  | .sla, .reg .e => .sla_E
  | .sla, .reg .h => .sla_H
  | .sla, .reg .l => .sla_L
  | .sla, .mHL => .sla_mHL
  | .sla, .reg .a => .sla_A
  | .sra, .reg .b => .sra_B
  | .sra, .reg .c => .sra_C
  | .sra, .reg .d => .sra_D
  | .sra, .reg .e => .sra_E
  | .sra, .reg .h => .sra_H
  | .sra, .reg .l => .sra_L
  | .sra, .mHL => .sra_mHL
  | .sra, .reg .a => .sra_A
  | .swap, .reg .b => .swap_B
  | .swap, .reg .c => .swap_C
  | .swap, .reg .d => .swap_D
  | .swap, .reg .e => .swap_E
  | .swap, .reg .h => .swap_H
  | .swap, .reg .l => .swap_L
  | .swap, .mHL => .swap_mHL
  | .swap, .reg .a => .swap_A
  | .srl, .reg .b => .srl_B
  | .srl, .reg .c => .srl_C
  | .srl, .reg .d => .srl_D
  | .srl, .reg .e => .srl_E
  | .srl, .reg .h => .srl_H
  | .srl, .reg .l => .srl_L
  | .srl, .mHL => .srl_mHL
  | .srl, .reg .a => .srl_A

/-- `BIT b,r` (R157). -/
def rowBit : Fin 8 → Operand8 → Instr
  | 0, .reg .b => .bit_0_B
  | 0, .reg .c => .bit_0_C
  | 0, .reg .d => .bit_0_D
  | 0, .reg .e => .bit_0_E
  | 0, .reg .h => .bit_0_H
  | 0, .reg .l => .bit_0_L
  | 0, .mHL => .bit_0_mHL
  | 0, .reg .a => .bit_0_A
  | 1, .reg .b => .bit_1_B
  | 1, .reg .c => .bit_1_C
  | 1, .reg .d => .bit_1_D
  | 1, .reg .e => .bit_1_E
  | 1, .reg .h => .bit_1_H
  | 1, .reg .l => .bit_1_L
  | 1, .mHL => .bit_1_mHL
  | 1, .reg .a => .bit_1_A
  | 2, .reg .b => .bit_2_B
  | 2, .reg .c => .bit_2_C
  | 2, .reg .d => .bit_2_D
  | 2, .reg .e => .bit_2_E
  | 2, .reg .h => .bit_2_H
  | 2, .reg .l => .bit_2_L
  | 2, .mHL => .bit_2_mHL
  | 2, .reg .a => .bit_2_A
  | 3, .reg .b => .bit_3_B
  | 3, .reg .c => .bit_3_C
  | 3, .reg .d => .bit_3_D
  | 3, .reg .e => .bit_3_E
  | 3, .reg .h => .bit_3_H
  | 3, .reg .l => .bit_3_L
  | 3, .mHL => .bit_3_mHL
  | 3, .reg .a => .bit_3_A
  | 4, .reg .b => .bit_4_B
  | 4, .reg .c => .bit_4_C
  | 4, .reg .d => .bit_4_D
  | 4, .reg .e => .bit_4_E
  | 4, .reg .h => .bit_4_H
  | 4, .reg .l => .bit_4_L
  | 4, .mHL => .bit_4_mHL
  | 4, .reg .a => .bit_4_A
  | 5, .reg .b => .bit_5_B
  | 5, .reg .c => .bit_5_C
  | 5, .reg .d => .bit_5_D
  | 5, .reg .e => .bit_5_E
  | 5, .reg .h => .bit_5_H
  | 5, .reg .l => .bit_5_L
  | 5, .mHL => .bit_5_mHL
  | 5, .reg .a => .bit_5_A
  | 6, .reg .b => .bit_6_B
  | 6, .reg .c => .bit_6_C
  | 6, .reg .d => .bit_6_D
  | 6, .reg .e => .bit_6_E
  | 6, .reg .h => .bit_6_H
  | 6, .reg .l => .bit_6_L
  | 6, .mHL => .bit_6_mHL
  | 6, .reg .a => .bit_6_A
  | 7, .reg .b => .bit_7_B
  | 7, .reg .c => .bit_7_C
  | 7, .reg .d => .bit_7_D
  | 7, .reg .e => .bit_7_E
  | 7, .reg .h => .bit_7_H
  | 7, .reg .l => .bit_7_L
  | 7, .mHL => .bit_7_mHL
  | 7, .reg .a => .bit_7_A

/-- `RES b,r` (R158). -/
def rowRes : Fin 8 → Operand8 → Instr
  | 0, .reg .b => .res_0_B
  | 0, .reg .c => .res_0_C
  | 0, .reg .d => .res_0_D
  | 0, .reg .e => .res_0_E
  | 0, .reg .h => .res_0_H
  | 0, .reg .l => .res_0_L
  | 0, .mHL => .res_0_mHL
  | 0, .reg .a => .res_0_A
  | 1, .reg .b => .res_1_B
  | 1, .reg .c => .res_1_C
  | 1, .reg .d => .res_1_D
  | 1, .reg .e => .res_1_E
  | 1, .reg .h => .res_1_H
  | 1, .reg .l => .res_1_L
  | 1, .mHL => .res_1_mHL
  | 1, .reg .a => .res_1_A
  | 2, .reg .b => .res_2_B
  | 2, .reg .c => .res_2_C
  | 2, .reg .d => .res_2_D
  | 2, .reg .e => .res_2_E
  | 2, .reg .h => .res_2_H
  | 2, .reg .l => .res_2_L
  | 2, .mHL => .res_2_mHL
  | 2, .reg .a => .res_2_A
  | 3, .reg .b => .res_3_B
  | 3, .reg .c => .res_3_C
  | 3, .reg .d => .res_3_D
  | 3, .reg .e => .res_3_E
  | 3, .reg .h => .res_3_H
  | 3, .reg .l => .res_3_L
  | 3, .mHL => .res_3_mHL
  | 3, .reg .a => .res_3_A
  | 4, .reg .b => .res_4_B
  | 4, .reg .c => .res_4_C
  | 4, .reg .d => .res_4_D
  | 4, .reg .e => .res_4_E
  | 4, .reg .h => .res_4_H
  | 4, .reg .l => .res_4_L
  | 4, .mHL => .res_4_mHL
  | 4, .reg .a => .res_4_A
  | 5, .reg .b => .res_5_B
  | 5, .reg .c => .res_5_C
  | 5, .reg .d => .res_5_D
  | 5, .reg .e => .res_5_E
  | 5, .reg .h => .res_5_H
  | 5, .reg .l => .res_5_L
  | 5, .mHL => .res_5_mHL
  | 5, .reg .a => .res_5_A
  | 6, .reg .b => .res_6_B
  | 6, .reg .c => .res_6_C
  | 6, .reg .d => .res_6_D
  | 6, .reg .e => .res_6_E
  | 6, .reg .h => .res_6_H
  | 6, .reg .l => .res_6_L
  | 6, .mHL => .res_6_mHL
  | 6, .reg .a => .res_6_A
  | 7, .reg .b => .res_7_B
  | 7, .reg .c => .res_7_C
  | 7, .reg .d => .res_7_D
  | 7, .reg .e => .res_7_E
  | 7, .reg .h => .res_7_H
  | 7, .reg .l => .res_7_L
  | 7, .mHL => .res_7_mHL
  | 7, .reg .a => .res_7_A

/-- `SET b,r` (R159). -/
def rowSet : Fin 8 → Operand8 → Instr
  | 0, .reg .b => .set_0_B
  | 0, .reg .c => .set_0_C
  | 0, .reg .d => .set_0_D
  | 0, .reg .e => .set_0_E
  | 0, .reg .h => .set_0_H
  | 0, .reg .l => .set_0_L
  | 0, .mHL => .set_0_mHL
  | 0, .reg .a => .set_0_A
  | 1, .reg .b => .set_1_B
  | 1, .reg .c => .set_1_C
  | 1, .reg .d => .set_1_D
  | 1, .reg .e => .set_1_E
  | 1, .reg .h => .set_1_H
  | 1, .reg .l => .set_1_L
  | 1, .mHL => .set_1_mHL
  | 1, .reg .a => .set_1_A
  | 2, .reg .b => .set_2_B
  | 2, .reg .c => .set_2_C
  | 2, .reg .d => .set_2_D
  | 2, .reg .e => .set_2_E
  | 2, .reg .h => .set_2_H
  | 2, .reg .l => .set_2_L
  | 2, .mHL => .set_2_mHL
  | 2, .reg .a => .set_2_A
  | 3, .reg .b => .set_3_B
  | 3, .reg .c => .set_3_C
  | 3, .reg .d => .set_3_D
  | 3, .reg .e => .set_3_E
  | 3, .reg .h => .set_3_H
  | 3, .reg .l => .set_3_L
  | 3, .mHL => .set_3_mHL
  | 3, .reg .a => .set_3_A
  | 4, .reg .b => .set_4_B
  | 4, .reg .c => .set_4_C
  | 4, .reg .d => .set_4_D
  | 4, .reg .e => .set_4_E
  | 4, .reg .h => .set_4_H
  | 4, .reg .l => .set_4_L
  | 4, .mHL => .set_4_mHL
  | 4, .reg .a => .set_4_A
  | 5, .reg .b => .set_5_B
  | 5, .reg .c => .set_5_C
  | 5, .reg .d => .set_5_D
  | 5, .reg .e => .set_5_E
  | 5, .reg .h => .set_5_H
  | 5, .reg .l => .set_5_L
  | 5, .mHL => .set_5_mHL
  | 5, .reg .a => .set_5_A
  | 6, .reg .b => .set_6_B
  | 6, .reg .c => .set_6_C
  | 6, .reg .d => .set_6_D
  | 6, .reg .e => .set_6_E
  | 6, .reg .h => .set_6_H
  | 6, .reg .l => .set_6_L
  | 6, .mHL => .set_6_mHL
  | 6, .reg .a => .set_6_A
  | 7, .reg .b => .set_7_B
  | 7, .reg .c => .set_7_C
  | 7, .reg .d => .set_7_D
  | 7, .reg .e => .set_7_E
  | 7, .reg .h => .set_7_H
  | 7, .reg .l => .set_7_L
  | 7, .mHL => .set_7_mHL
  | 7, .reg .a => .set_7_A

/-- The eleven sentinel rows (R62, R166). -/
def rowIllegal : Hole → Instr
  | .d3 => .illegal_D3
  | .db => .illegal_DB
  | .dd => .illegal_DD
  | .e3 => .illegal_E3
  | .e4 => .illegal_E4
  | .eb => .illegal_EB
  | .ec => .illegal_EC
  | .ed => .illegal_ED
  | .f4 => .illegal_F4
  | .fc => .illegal_FC
  | .fd => .illegal_FD

/-- The row of the opcode table an operation with its operands is. -/
def Operation.instr : Operation → Instr
  | .nop => .nop
  | .ldRegReg dst src => rowLdRegReg dst src
  | .ldRegImm dst n => rowLdRegImm n dst
  | .ldRegMHL dst => rowLdRegMHL dst
  | .ldMHLReg src => rowLdMHLReg src
  | .ldMHLImm n => .ld_mHL_n8 n
  | .ldAccInd p => rowLdAccInd p
  | .ldIndAcc p => rowLdIndAcc p
  | .ldAbsAcc a => .ld_ma16_A a
  | .ldAccAbs a => .ld_A_ma16 a
  | .ldhAbsAcc a => .ldh_ma8_A a
  | .ldhAccAbs a => .ldh_A_ma8 a
  | .ldPortAcc => .ld_mC_A
  | .ldAccPort => .ld_A_mC
  | .ldWideImm p n => rowLdWideImm n p
  | .ldAbsSp a => .ld_ma16_SP a
  | .ldSpHl => .ld_SP_HL
  | .ldHlSp e => .ld_HL_SPe8 e
  | .addHl p => rowAddHl p
  | .incWide p => rowIncWide p
  | .decWide p => rowDecWide p
  | .addSp e => .add_SP_e8 e
  | .alu op src => rowAlu op src
  | .inc o => rowInc o
  | .dec o => rowDec o
  | .accRot op => rowAccRot op
  | .daa => .daa
  | .cpl => .cpl
  | .scf => .scf
  | .ccf => .ccf
  | .push p => rowPush p
  | .pop p => rowPop p
  | .jp a => .jp_a16 a
  | .jpIf cc a => rowJpIf a cc
  | .jpHl => .jp_HL
  | .jr e => .jr_e8 e
  | .jrIf cc e => rowJrIf e cc
  | .call a => .call_a16 a
  | .callIf cc a => rowCallIf a cc
  | .ret => .ret
  | .retIf cc => rowRetIf cc
  | .rst t => rowRst t
  | .rot op o => rowRot op o
  | .bit b o => rowBit b o
  | .res b o => rowRes b o
  | .set b o => rowSet b o
  | .halt => .halt
  | .stop pad => .stop pad
  | .di => .di
  | .ei => .ei
  | .reti => .reti
  | .illegal h => rowIllegal h
  | .prefixCb sub => .prefix_CB sub

/-! ## Fields of an opcode byte (R56) and their tables (R57, R58) -/

/-- `x = o[7:6]`. -/
def fieldX (o : Byte) : Nat := o.toNat / 64

/-- `y = o[5:3]`. -/
def fieldY (o : Byte) : Nat := o.toNat / 8 % 8

/-- `z = o[2:0]`. -/
def fieldZ (o : Byte) : Nat := o.toNat % 8

/-- `p = y[2:1]`. -/
def fieldP (o : Byte) : Nat := fieldY o / 2

/-- `q = y[0]`. -/
def fieldQ (o : Byte) : Nat := fieldY o % 2

/-- The register field `r` (R57). -/
def operandOf : Nat → Operand8
  | 0 => .reg .b
  | 1 => .reg .c
  | 2 => .reg .d
  | 3 => .reg .e
  | 4 => .reg .h
  | 5 => .reg .l
  | 6 => .mHL
  | _ => .reg .a

/-- The register field `r` as the source of an accumulator operation (R80). -/
def Operand8.source : Operand8 → Source8
  | .reg r => .reg r
  | .mHL => .mHL

/-- The pair field as `rr` (R58). -/
def wideOf : Nat → Wide
  | 0 => .bc
  | 1 => .de
  | 2 => .hl
  | _ => .sp

/-- The pair field as `rr2` (R58). -/
def pairOf : Nat → Pair
  | 0 => .bc
  | 1 => .de
  | 2 => .hl
  | _ => .af

/-- The pair field as an indirect operand (R58). -/
def indirectOf : Nat → Indirect
  | 0 => .bc
  | 1 => .de
  | 2 => .hlInc
  | _ => .hlDec

/-- The condition field (R58). -/
def condOf : Nat → Cond
  | 0 => .nz
  | 1 => .z
  | 2 => .nc
  | _ => .c

/-- ALU[y] (R61). -/
def aluOf : Nat → AluOp
  | 0 => .add
  | 1 => .adc
  | 2 => .sub
  | 3 => .sbc
  | 4 => .and
  | 5 => .xor
  | 6 => .or
  | _ => .cp

/-- ROT[y] (R61). -/
def rotOf : Nat → RotOp
  | 0 => .rlc
  | 1 => .rrc
  | 2 => .rl
  | 3 => .rr
  | 4 => .sla
  | 5 => .sra
  | 6 => .swap
  | _ => .srl

/-- The bit index `b = y`, and the y of an RST target (R58). -/
def bitIndexOf (y : Nat) : Fin 8 := Fin.ofNat 8 y

/-! ## The opcode map (R61) -/

/-- The padding byte of STOP, where STOP_LEN gives it one (R55, R162). -/
def stopPad : StopLen → Byte → Option Byte
  | .one, _ => none
  | .two, n => some n

/-- The row x = 0 of the unprefixed map (R61). -/
def decodeX0 (sl : StopLen) (o n8 : Byte) (n16 : Addr) : Operation :=
  match fieldZ o with
  | 0 =>
    match fieldY o with
    | 0 => .nop
    | 1 => .ldAbsSp n16
    | 2 => .stop (stopPad sl n8)
    | 3 => .jr n8
    | y => .jrIf (condOf (y - 4)) n8
  | 1 => if fieldQ o = 0 then .ldWideImm (wideOf (fieldP o)) n16 else .addHl (wideOf (fieldP o))
  | 2 => if fieldQ o = 0 then .ldIndAcc (indirectOf (fieldP o)) else .ldAccInd (indirectOf (fieldP o))
  | 3 => if fieldQ o = 0 then .incWide (wideOf (fieldP o)) else .decWide (wideOf (fieldP o))
  | 4 => .inc (operandOf (fieldY o))
  | 5 => .dec (operandOf (fieldY o))
  | 6 =>
    match operandOf (fieldY o) with
    | .reg r => .ldRegImm r n8
    | .mHL => .ldMHLImm n8
  | _ =>
    match fieldY o with
    | 0 => .accRot .rlca
    | 1 => .accRot .rrca
    | 2 => .accRot .rla
    | 3 => .accRot .rra
    | 4 => .daa
    | 5 => .cpl
    | 6 => .scf
    | _ => .ccf

/-- The row x = 1: LD r[y],r[z], but for y = z = 6, which is HALT (R61). -/
def decodeX1 (o : Byte) : Operation :=
  match operandOf (fieldY o), operandOf (fieldZ o) with
  | .reg dst, .reg src => .ldRegReg dst src
  | .reg dst, .mHL => .ldRegMHL dst
  | .mHL, .reg src => .ldMHLReg src
  | .mHL, .mHL => .halt

/-- The row x = 3 (R61, R62); `n8` is the sub-opcode for the prefix byte, whose own map is `decodeCb`. -/
def decodeX3 (o n8 : Byte) (n16 : Addr) (cb : Operation) : Operation :=
  match fieldZ o with
  | 0 =>
    match fieldY o with
    | 4 => .ldhAbsAcc n8
    | 5 => .addSp n8
    | 6 => .ldhAccAbs n8
    | 7 => .ldHlSp n8
    | y => .retIf (condOf y)
  | 1 =>
    if fieldQ o = 0 then .pop (pairOf (fieldP o))
    else
      match fieldP o with
      | 0 => .ret
      | 1 => .reti
      | 2 => .jpHl
      | _ => .ldSpHl
  | 2 =>
    match fieldY o with
    | 4 => .ldPortAcc
    | 5 => .ldAbsAcc n16
    | 6 => .ldAccPort
    | 7 => .ldAccAbs n16
    | y => .jpIf (condOf y) n16
  | 3 =>
    match fieldY o with
    | 0 => .jp n16
    | 1 => cb
    | 2 => .illegal .d3
    | 3 => .illegal .db
    | 4 => .illegal .e3
    | 5 => .illegal .eb
    | 6 => .di
    | _ => .ei
  | 4 =>
    match fieldY o with
    | 4 => .illegal .e4
    | 5 => .illegal .ec
    | 6 => .illegal .f4
    | 7 => .illegal .fc
    | y => .callIf (condOf y) n16
  | 5 =>
    if fieldQ o = 0 then .push (pairOf (fieldP o))
    else
      match fieldP o with
      | 0 => .call n16
      | 1 => .illegal .dd
      | 2 => .illegal .ed
      | _ => .illegal .fd
  | 6 => .alu (aluOf (fieldY o)) (.imm n8)
  | _ => .rst (bitIndexOf (fieldY o))

/-- The CB map (R61): every sub-opcode is defined (R62). -/
def decodeCb (sub : Byte) : Operation :=
  match fieldX sub with
  | 0 => .rot (rotOf (fieldY sub)) (operandOf (fieldZ sub))
  | 1 => .bit (bitIndexOf (fieldY sub)) (operandOf (fieldZ sub))
  | 2 => .res (bitIndexOf (fieldY sub)) (operandOf (fieldZ sub))
  | _ => .set (bitIndexOf (fieldY sub)) (operandOf (fieldZ sub))

/-- The operation of an opcode byte and the two bytes after it (R61, R72): total, and independent of a following byte
the opcode does not take. -/
def decodeOperation (sl : StopLen) (o b1 b2 : Byte) : Operation :=
  match fieldX o with
  | 0 => decodeX0 sl o b1 (joinBytes b2 b1)
  | 1 => decodeX1 o
  | 2 => .alu (aluOf (fieldY o)) (operandOf (fieldZ o)).source
  | _ => decodeX3 o b1 (joinBytes b2 b1) (decodeCb b1)

/-- How many bytes follow the opcode byte, a function of the opcode byte alone (R54, R55, R65). -/
def extraBytes (sl : StopLen) (o : Byte) : Nat :=
  match fieldX o, fieldZ o with
  | 0, 0 =>
    match fieldY o with
    | 0 => 0
    | 1 => 2
    | 2 => (match sl with | .one => 0 | .two => 1)
    | _ => 1
  | 0, 1 => if fieldQ o = 0 then 2 else 0
  | 0, 6 => 1
  | 3, 0 => if fieldY o < 4 then 0 else 1
  | 3, 2 => if fieldY o < 4 ∨ fieldY o = 5 ∨ fieldY o = 7 then 2 else 0
  | 3, 3 => if fieldY o = 0 then 2 else if fieldY o = 1 then 1 else 0
  | 3, 4 => if fieldY o < 4 then 2 else 0
  | 3, 5 => if fieldY o = 1 then 2 else 0
  | 3, 6 => 1
  | _, _ => 0

/-! ## Cycle cost (R190): data that no rule reads -/

/-- The T-state count of a descriptor: one number, or one for each way a conditional instruction can go. -/
inductive CycleCost where
  | fixed (n : Nat)
  | conditional (taken notTaken : Nat)
deriving DecidableEq, Repr

/-- Cost of an operand form: `r` for a register, `m` for (HL). -/
def Operand8.cost (r m : Nat) : Operand8 → CycleCost
  | .reg _ => .fixed r
  | .mHL => .fixed m

/-- The `cycles` column of the opcode table (R190). The sentinel rows and the prefix row carry none. -/
def Operation.cycles : Operation → Option CycleCost
  | .nop | .ldRegReg _ _ | .accRot _ | .daa | .cpl | .scf | .ccf | .jpHl => some (.fixed 4)
  | .halt | .stop _ | .di | .ei => some (.fixed 4)
  | .ldRegImm _ _ | .ldRegMHL _ | .ldMHLReg _ | .ldAccInd _ | .ldIndAcc _ | .ldPortAcc | .ldAccPort => some (.fixed 8)
  | .ldSpHl | .addHl _ | .incWide _ | .decWide _ => some (.fixed 8)
  | .ldMHLImm _ | .ldhAbsAcc _ | .ldhAccAbs _ | .ldWideImm _ _ | .ldHlSp _ | .pop _ | .jr _ => some (.fixed 12)
  | .ldAbsAcc _ | .ldAccAbs _ | .addSp _ | .push _ | .jp _ | .ret | .rst _ | .reti => some (.fixed 16)
  | .ldAbsSp _ => some (.fixed 20)
  | .call _ => some (.fixed 24)
  | .alu _ (.reg _) => some (.fixed 4)
  | .alu _ .mHL | .alu _ (.imm _) => some (.fixed 8)
  | .inc o | .dec o => some (o.cost 4 12)
  | .rot _ o | .res _ o | .set _ o => some (o.cost 8 16)
  | .bit _ o => some (o.cost 8 12)
  | .jrIf _ _ => some (.conditional 12 8)
  | .jpIf _ _ => some (.conditional 16 12)
  | .callIf _ _ => some (.conditional 24 12)
  | .retIf _ => some (.conditional 20 8)
  | .illegal _ | .prefixCb _ => none

/-! ## The descriptor (R77) -/

/-- The immutable value that describes one decoded instruction (R77), transient within a step (R31). -/
structure Descriptor where
  /-- The operation and its operands, as a row of the opcode table. -/
  instr : Instr
  /-- The extra-byte length: 0, 1 or 2. -/
  extra : Nat
  /-- The cycle cost, which no rule reads. -/
  cycles : Option CycleCost
deriving DecidableEq, Repr

/-- The decoder's contract (R72): a pure, total function of the opcode byte and of the bytes after it. -/
def describe (sl : StopLen) (o b1 b2 : Byte) : Descriptor :=
  let op := decodeOperation sl o b1 b2
  { instr := op.instr, extra := extraBytes sl o, cycles := op.cycles }

/-- Why a list of bytes holds no instruction. The machine's own decoder never fails (R72); a finite list can end early. -/
inductive DecodeError where
  /-- There is no opcode byte. -/
  | noOpcode
  /-- The opcode takes `wanted` bytes after it and fewer are there. -/
  | truncated (opcode : Byte) (wanted : Nat)
deriving DecidableEq, Repr

/-- The instruction at the head of a list of bytes and the bytes after it. -/
def decode (sl : StopLen) : List Byte → Except DecodeError (Instr × List Byte)
  | [] => .error .noOpcode
  | o :: rest =>
    if rest.length < extraBytes sl o then .error (.truncated o (extraBytes sl o))
    else .ok ((describe sl o (rest.getD 0 0) (rest.getD 1 0)).instr, rest.drop (extraBytes sl o))

/-! ## The encoder -/

/-- The bytes of an instruction in fetch order (R55), row by row from the `encoding` column of the opcode table. -/
def encode : Instr → List Byte
  | .nop => [0x00]
  | .ld_BC_n16 n => [0x01, lowByte n, highByte n]
  | .ld_mBC_A => [0x02]
  | .inc_BC => [0x03]
  | .inc_B => [0x04]
  | .dec_B => [0x05]
  | .ld_B_n8 n => [0x06, n]
  | .rlca => [0x07]
  | .ld_ma16_SP a => [0x08, lowByte a, highByte a]
  | .add_HL_BC => [0x09]
  | .ld_A_mBC => [0x0A]
  | .dec_BC => [0x0B]
  | .inc_C => [0x0C]
  | .dec_C => [0x0D]
  | .ld_C_n8 n => [0x0E, n]
  | .rrca => [0x0F]
  | .stop pad => 0x10 :: pad.toList
  | .ld_DE_n16 n => [0x11, lowByte n, highByte n]
  | .ld_mDE_A => [0x12]
  | .inc_DE => [0x13]
  | .inc_D => [0x14]
  | .dec_D => [0x15]
  | .ld_D_n8 n => [0x16, n]
  | .rla => [0x17]
  | .jr_e8 e => [0x18, e]
  | .add_HL_DE => [0x19]
  | .ld_A_mDE => [0x1A]
  | .dec_DE => [0x1B]
  | .inc_E => [0x1C]
  | .dec_E => [0x1D]
  | .ld_E_n8 n => [0x1E, n]
  | .rra => [0x1F]
  | .jr_NZ_e8 e => [0x20, e]
  | .ld_HL_n16 n => [0x21, lowByte n, highByte n]
  | .ld_mHLI_A => [0x22]
  | .inc_HL => [0x23]
  | .inc_H => [0x24]
  | .dec_H => [0x25]
  | .ld_H_n8 n => [0x26, n]
  | .daa => [0x27]
  | .jr_Z_e8 e => [0x28, e]
  | .add_HL_HL => [0x29]
  | .ld_A_mHLI => [0x2A]
  | .dec_HL => [0x2B]
  | .inc_L => [0x2C]
  | .dec_L => [0x2D]
  | .ld_L_n8 n => [0x2E, n]
  | .cpl => [0x2F]
  | .jr_NC_e8 e => [0x30, e]
  | .ld_SP_n16 n => [0x31, lowByte n, highByte n]
  | .ld_mHLD_A => [0x32]
  | .inc_SP => [0x33]
  | .inc_mHL => [0x34]
  | .dec_mHL => [0x35]
  | .ld_mHL_n8 n => [0x36, n]
  | .scf => [0x37]
  | .jr_C_e8 e => [0x38, e]
  | .add_HL_SP => [0x39]
  | .ld_A_mHLD => [0x3A]
  | .dec_SP => [0x3B]
  | .inc_A => [0x3C]
  | .dec_A => [0x3D]
  | .ld_A_n8 n => [0x3E, n]
  | .ccf => [0x3F]
  | .ld_B_B => [0x40]
  | .ld_B_C => [0x41]
  | .ld_B_D => [0x42]
  | .ld_B_E => [0x43]
  | .ld_B_H => [0x44]
  | .ld_B_L => [0x45]
  | .ld_B_mHL => [0x46]
  | .ld_B_A => [0x47]
  | .ld_C_B => [0x48]
  | .ld_C_C => [0x49]
  | .ld_C_D => [0x4A]
  | .ld_C_E => [0x4B]
  | .ld_C_H => [0x4C]
  | .ld_C_L => [0x4D]
  | .ld_C_mHL => [0x4E]
  | .ld_C_A => [0x4F]
  | .ld_D_B => [0x50]
  | .ld_D_C => [0x51]
  | .ld_D_D => [0x52]
  | .ld_D_E => [0x53]
  | .ld_D_H => [0x54]
  | .ld_D_L => [0x55]
  | .ld_D_mHL => [0x56]
  | .ld_D_A => [0x57]
  | .ld_E_B => [0x58]
  | .ld_E_C => [0x59]
  | .ld_E_D => [0x5A]
  | .ld_E_E => [0x5B]
  | .ld_E_H => [0x5C]
  | .ld_E_L => [0x5D]
  | .ld_E_mHL => [0x5E]
  | .ld_E_A => [0x5F]
  | .ld_H_B => [0x60]
  | .ld_H_C => [0x61]
  | .ld_H_D => [0x62]
  | .ld_H_E => [0x63]
  | .ld_H_H => [0x64]
  | .ld_H_L => [0x65]
  | .ld_H_mHL => [0x66]
  | .ld_H_A => [0x67]
  | .ld_L_B => [0x68]
  | .ld_L_C => [0x69]
  | .ld_L_D => [0x6A]
  | .ld_L_E => [0x6B]
  | .ld_L_H => [0x6C]
  | .ld_L_L => [0x6D]
  | .ld_L_mHL => [0x6E]
  | .ld_L_A => [0x6F]
  | .ld_mHL_B => [0x70]
  | .ld_mHL_C => [0x71]
  | .ld_mHL_D => [0x72]
  | .ld_mHL_E => [0x73]
  | .ld_mHL_H => [0x74]
  | .ld_mHL_L => [0x75]
  | .halt => [0x76]
  | .ld_mHL_A => [0x77]
  | .ld_A_B => [0x78]
  | .ld_A_C => [0x79]
  | .ld_A_D => [0x7A]
  | .ld_A_E => [0x7B]
  | .ld_A_H => [0x7C]
  | .ld_A_L => [0x7D]
  | .ld_A_mHL => [0x7E]
  | .ld_A_A => [0x7F]
  | .add_A_B => [0x80]
  | .add_A_C => [0x81]
  | .add_A_D => [0x82]
  | .add_A_E => [0x83]
  | .add_A_H => [0x84]
  | .add_A_L => [0x85]
  | .add_A_mHL => [0x86]
  | .add_A_A => [0x87]
  | .adc_A_B => [0x88]
  | .adc_A_C => [0x89]
  | .adc_A_D => [0x8A]
  | .adc_A_E => [0x8B]
  | .adc_A_H => [0x8C]
  | .adc_A_L => [0x8D]
  | .adc_A_mHL => [0x8E]
  | .adc_A_A => [0x8F]
  | .sub_A_B => [0x90]
  | .sub_A_C => [0x91]
  | .sub_A_D => [0x92]
  | .sub_A_E => [0x93]
  | .sub_A_H => [0x94]
  | .sub_A_L => [0x95]
  | .sub_A_mHL => [0x96]
  | .sub_A_A => [0x97]
  | .sbc_A_B => [0x98]
  | .sbc_A_C => [0x99]
  | .sbc_A_D => [0x9A]
  | .sbc_A_E => [0x9B]
  | .sbc_A_H => [0x9C]
  | .sbc_A_L => [0x9D]
  | .sbc_A_mHL => [0x9E]
  | .sbc_A_A => [0x9F]
  | .and_A_B => [0xA0]
  | .and_A_C => [0xA1]
  | .and_A_D => [0xA2]
  | .and_A_E => [0xA3]
  | .and_A_H => [0xA4]
  | .and_A_L => [0xA5]
  | .and_A_mHL => [0xA6]
  | .and_A_A => [0xA7]
  | .xor_A_B => [0xA8]
  | .xor_A_C => [0xA9]
  | .xor_A_D => [0xAA]
  | .xor_A_E => [0xAB]
  | .xor_A_H => [0xAC]
  | .xor_A_L => [0xAD]
  | .xor_A_mHL => [0xAE]
  | .xor_A_A => [0xAF]
  | .or_A_B => [0xB0]
  | .or_A_C => [0xB1]
  | .or_A_D => [0xB2]
  | .or_A_E => [0xB3]
  | .or_A_H => [0xB4]
  | .or_A_L => [0xB5]
  | .or_A_mHL => [0xB6]
  | .or_A_A => [0xB7]
  | .cp_A_B => [0xB8]
  | .cp_A_C => [0xB9]
  | .cp_A_D => [0xBA]
  | .cp_A_E => [0xBB]
  | .cp_A_H => [0xBC]
  | .cp_A_L => [0xBD]
  | .cp_A_mHL => [0xBE]
  | .cp_A_A => [0xBF]
  | .ret_NZ => [0xC0]
  | .pop_BC => [0xC1]
  | .jp_NZ_a16 a => [0xC2, lowByte a, highByte a]
  | .jp_a16 a => [0xC3, lowByte a, highByte a]
  | .call_NZ_a16 a => [0xC4, lowByte a, highByte a]
  | .push_BC => [0xC5]
  | .add_A_n8 n => [0xC6, n]
  | .rst_00 => [0xC7]
  | .ret_Z => [0xC8]
  | .ret => [0xC9]
  | .jp_Z_a16 a => [0xCA, lowByte a, highByte a]
  | .prefix_CB sub => [0xCB, sub]
  | .call_Z_a16 a => [0xCC, lowByte a, highByte a]
  | .call_a16 a => [0xCD, lowByte a, highByte a]
  | .adc_A_n8 n => [0xCE, n]
  | .rst_08 => [0xCF]
  | .ret_NC => [0xD0]
  | .pop_DE => [0xD1]
  | .jp_NC_a16 a => [0xD2, lowByte a, highByte a]
  | .illegal_D3 => [0xD3]
  | .call_NC_a16 a => [0xD4, lowByte a, highByte a]
  | .push_DE => [0xD5]
  | .sub_A_n8 n => [0xD6, n]
  | .rst_10 => [0xD7]
  | .ret_C => [0xD8]
  | .reti => [0xD9]
  | .jp_C_a16 a => [0xDA, lowByte a, highByte a]
  | .illegal_DB => [0xDB]
  | .call_C_a16 a => [0xDC, lowByte a, highByte a]
  | .illegal_DD => [0xDD]
  | .sbc_A_n8 n => [0xDE, n]
  | .rst_18 => [0xDF]
  | .ldh_ma8_A a => [0xE0, a]
  | .pop_HL => [0xE1]
  | .ld_mC_A => [0xE2]
  | .illegal_E3 => [0xE3]
  | .illegal_E4 => [0xE4]
  | .push_HL => [0xE5]
  | .and_A_n8 n => [0xE6, n]
  | .rst_20 => [0xE7]
  | .add_SP_e8 e => [0xE8, e]
  | .jp_HL => [0xE9]
  | .ld_ma16_A a => [0xEA, lowByte a, highByte a]
  | .illegal_EB => [0xEB]
  | .illegal_EC => [0xEC]
  | .illegal_ED => [0xED]
  | .xor_A_n8 n => [0xEE, n]
  | .rst_28 => [0xEF]
  | .ldh_A_ma8 a => [0xF0, a]
  | .pop_AF => [0xF1]
  | .ld_A_mC => [0xF2]
  | .di => [0xF3]
  | .illegal_F4 => [0xF4]
  | .push_AF => [0xF5]
  | .or_A_n8 n => [0xF6, n]
  | .rst_30 => [0xF7]
  | .ld_HL_SPe8 e => [0xF8, e]
  | .ld_SP_HL => [0xF9]
  | .ld_A_ma16 a => [0xFA, lowByte a, highByte a]
  | .ei => [0xFB]
  | .illegal_FC => [0xFC]
  | .illegal_FD => [0xFD]
  | .cp_A_n8 n => [0xFE, n]
  | .rst_38 => [0xFF]
  | .rlc_B => [0xCB, 0x00]
  | .rlc_C => [0xCB, 0x01]
  | .rlc_D => [0xCB, 0x02]
  | .rlc_E => [0xCB, 0x03]
  | .rlc_H => [0xCB, 0x04]
  | .rlc_L => [0xCB, 0x05]
  | .rlc_mHL => [0xCB, 0x06]
  | .rlc_A => [0xCB, 0x07]
  | .rrc_B => [0xCB, 0x08]
  | .rrc_C => [0xCB, 0x09]
  | .rrc_D => [0xCB, 0x0A]
  | .rrc_E => [0xCB, 0x0B]
  | .rrc_H => [0xCB, 0x0C]
  | .rrc_L => [0xCB, 0x0D]
  | .rrc_mHL => [0xCB, 0x0E]
  | .rrc_A => [0xCB, 0x0F]
  | .rl_B => [0xCB, 0x10]
  | .rl_C => [0xCB, 0x11]
  | .rl_D => [0xCB, 0x12]
  | .rl_E => [0xCB, 0x13]
  | .rl_H => [0xCB, 0x14]
  | .rl_L => [0xCB, 0x15]
  | .rl_mHL => [0xCB, 0x16]
  | .rl_A => [0xCB, 0x17]
  | .rr_B => [0xCB, 0x18]
  | .rr_C => [0xCB, 0x19]
  | .rr_D => [0xCB, 0x1A]
  | .rr_E => [0xCB, 0x1B]
  | .rr_H => [0xCB, 0x1C]
  | .rr_L => [0xCB, 0x1D]
  | .rr_mHL => [0xCB, 0x1E]
  | .rr_A => [0xCB, 0x1F]
  | .sla_B => [0xCB, 0x20]
  | .sla_C => [0xCB, 0x21]
  | .sla_D => [0xCB, 0x22]
  | .sla_E => [0xCB, 0x23]
  | .sla_H => [0xCB, 0x24]
  | .sla_L => [0xCB, 0x25]
  | .sla_mHL => [0xCB, 0x26]
  | .sla_A => [0xCB, 0x27]
  | .sra_B => [0xCB, 0x28]
  | .sra_C => [0xCB, 0x29]
  | .sra_D => [0xCB, 0x2A]
  | .sra_E => [0xCB, 0x2B]
  | .sra_H => [0xCB, 0x2C]
  | .sra_L => [0xCB, 0x2D]
  | .sra_mHL => [0xCB, 0x2E]
  | .sra_A => [0xCB, 0x2F]
  | .swap_B => [0xCB, 0x30]
  | .swap_C => [0xCB, 0x31]
  | .swap_D => [0xCB, 0x32]
  | .swap_E => [0xCB, 0x33]
  | .swap_H => [0xCB, 0x34]
  | .swap_L => [0xCB, 0x35]
  | .swap_mHL => [0xCB, 0x36]
  | .swap_A => [0xCB, 0x37]
  | .srl_B => [0xCB, 0x38]
  | .srl_C => [0xCB, 0x39]
  | .srl_D => [0xCB, 0x3A]
  | .srl_E => [0xCB, 0x3B]
  | .srl_H => [0xCB, 0x3C]
  | .srl_L => [0xCB, 0x3D]
  | .srl_mHL => [0xCB, 0x3E]
  | .srl_A => [0xCB, 0x3F]
  | .bit_0_B => [0xCB, 0x40]
  | .bit_0_C => [0xCB, 0x41]
  | .bit_0_D => [0xCB, 0x42]
  | .bit_0_E => [0xCB, 0x43]
  | .bit_0_H => [0xCB, 0x44]
  | .bit_0_L => [0xCB, 0x45]
  | .bit_0_mHL => [0xCB, 0x46]
  | .bit_0_A => [0xCB, 0x47]
  | .bit_1_B => [0xCB, 0x48]
  | .bit_1_C => [0xCB, 0x49]
  | .bit_1_D => [0xCB, 0x4A]
  | .bit_1_E => [0xCB, 0x4B]
  | .bit_1_H => [0xCB, 0x4C]
  | .bit_1_L => [0xCB, 0x4D]
  | .bit_1_mHL => [0xCB, 0x4E]
  | .bit_1_A => [0xCB, 0x4F]
  | .bit_2_B => [0xCB, 0x50]
  | .bit_2_C => [0xCB, 0x51]
  | .bit_2_D => [0xCB, 0x52]
  | .bit_2_E => [0xCB, 0x53]
  | .bit_2_H => [0xCB, 0x54]
  | .bit_2_L => [0xCB, 0x55]
  | .bit_2_mHL => [0xCB, 0x56]
  | .bit_2_A => [0xCB, 0x57]
  | .bit_3_B => [0xCB, 0x58]
  | .bit_3_C => [0xCB, 0x59]
  | .bit_3_D => [0xCB, 0x5A]
  | .bit_3_E => [0xCB, 0x5B]
  | .bit_3_H => [0xCB, 0x5C]
  | .bit_3_L => [0xCB, 0x5D]
  | .bit_3_mHL => [0xCB, 0x5E]
  | .bit_3_A => [0xCB, 0x5F]
  | .bit_4_B => [0xCB, 0x60]
  | .bit_4_C => [0xCB, 0x61]
  | .bit_4_D => [0xCB, 0x62]
  | .bit_4_E => [0xCB, 0x63]
  | .bit_4_H => [0xCB, 0x64]
  | .bit_4_L => [0xCB, 0x65]
  | .bit_4_mHL => [0xCB, 0x66]
  | .bit_4_A => [0xCB, 0x67]
  | .bit_5_B => [0xCB, 0x68]
  | .bit_5_C => [0xCB, 0x69]
  | .bit_5_D => [0xCB, 0x6A]
  | .bit_5_E => [0xCB, 0x6B]
  | .bit_5_H => [0xCB, 0x6C]
  | .bit_5_L => [0xCB, 0x6D]
  | .bit_5_mHL => [0xCB, 0x6E]
  | .bit_5_A => [0xCB, 0x6F]
  | .bit_6_B => [0xCB, 0x70]
  | .bit_6_C => [0xCB, 0x71]
  | .bit_6_D => [0xCB, 0x72]
  | .bit_6_E => [0xCB, 0x73]
  | .bit_6_H => [0xCB, 0x74]
  | .bit_6_L => [0xCB, 0x75]
  | .bit_6_mHL => [0xCB, 0x76]
  | .bit_6_A => [0xCB, 0x77]
  | .bit_7_B => [0xCB, 0x78]
  | .bit_7_C => [0xCB, 0x79]
  | .bit_7_D => [0xCB, 0x7A]
  | .bit_7_E => [0xCB, 0x7B]
  | .bit_7_H => [0xCB, 0x7C]
  | .bit_7_L => [0xCB, 0x7D]
  | .bit_7_mHL => [0xCB, 0x7E]
  | .bit_7_A => [0xCB, 0x7F]
  | .res_0_B => [0xCB, 0x80]
  | .res_0_C => [0xCB, 0x81]
  | .res_0_D => [0xCB, 0x82]
  | .res_0_E => [0xCB, 0x83]
  | .res_0_H => [0xCB, 0x84]
  | .res_0_L => [0xCB, 0x85]
  | .res_0_mHL => [0xCB, 0x86]
  | .res_0_A => [0xCB, 0x87]
  | .res_1_B => [0xCB, 0x88]
  | .res_1_C => [0xCB, 0x89]
  | .res_1_D => [0xCB, 0x8A]
  | .res_1_E => [0xCB, 0x8B]
  | .res_1_H => [0xCB, 0x8C]
  | .res_1_L => [0xCB, 0x8D]
  | .res_1_mHL => [0xCB, 0x8E]
  | .res_1_A => [0xCB, 0x8F]
  | .res_2_B => [0xCB, 0x90]
  | .res_2_C => [0xCB, 0x91]
  | .res_2_D => [0xCB, 0x92]
  | .res_2_E => [0xCB, 0x93]
  | .res_2_H => [0xCB, 0x94]
  | .res_2_L => [0xCB, 0x95]
  | .res_2_mHL => [0xCB, 0x96]
  | .res_2_A => [0xCB, 0x97]
  | .res_3_B => [0xCB, 0x98]
  | .res_3_C => [0xCB, 0x99]
  | .res_3_D => [0xCB, 0x9A]
  | .res_3_E => [0xCB, 0x9B]
  | .res_3_H => [0xCB, 0x9C]
  | .res_3_L => [0xCB, 0x9D]
  | .res_3_mHL => [0xCB, 0x9E]
  | .res_3_A => [0xCB, 0x9F]
  | .res_4_B => [0xCB, 0xA0]
  | .res_4_C => [0xCB, 0xA1]
  | .res_4_D => [0xCB, 0xA2]
  | .res_4_E => [0xCB, 0xA3]
  | .res_4_H => [0xCB, 0xA4]
  | .res_4_L => [0xCB, 0xA5]
  | .res_4_mHL => [0xCB, 0xA6]
  | .res_4_A => [0xCB, 0xA7]
  | .res_5_B => [0xCB, 0xA8]
  | .res_5_C => [0xCB, 0xA9]
  | .res_5_D => [0xCB, 0xAA]
  | .res_5_E => [0xCB, 0xAB]
  | .res_5_H => [0xCB, 0xAC]
  | .res_5_L => [0xCB, 0xAD]
  | .res_5_mHL => [0xCB, 0xAE]
  | .res_5_A => [0xCB, 0xAF]
  | .res_6_B => [0xCB, 0xB0]
  | .res_6_C => [0xCB, 0xB1]
  | .res_6_D => [0xCB, 0xB2]
  | .res_6_E => [0xCB, 0xB3]
  | .res_6_H => [0xCB, 0xB4]
  | .res_6_L => [0xCB, 0xB5]
  | .res_6_mHL => [0xCB, 0xB6]
  | .res_6_A => [0xCB, 0xB7]
  | .res_7_B => [0xCB, 0xB8]
  | .res_7_C => [0xCB, 0xB9]
  | .res_7_D => [0xCB, 0xBA]
  | .res_7_E => [0xCB, 0xBB]
  | .res_7_H => [0xCB, 0xBC]
  | .res_7_L => [0xCB, 0xBD]
  | .res_7_mHL => [0xCB, 0xBE]
  | .res_7_A => [0xCB, 0xBF]
  | .set_0_B => [0xCB, 0xC0]
  | .set_0_C => [0xCB, 0xC1]
  | .set_0_D => [0xCB, 0xC2]
  | .set_0_E => [0xCB, 0xC3]
  | .set_0_H => [0xCB, 0xC4]
  | .set_0_L => [0xCB, 0xC5]
  | .set_0_mHL => [0xCB, 0xC6]
  | .set_0_A => [0xCB, 0xC7]
  | .set_1_B => [0xCB, 0xC8]
  | .set_1_C => [0xCB, 0xC9]
  | .set_1_D => [0xCB, 0xCA]
  | .set_1_E => [0xCB, 0xCB]
  | .set_1_H => [0xCB, 0xCC]
  | .set_1_L => [0xCB, 0xCD]
  | .set_1_mHL => [0xCB, 0xCE]
  | .set_1_A => [0xCB, 0xCF]
  | .set_2_B => [0xCB, 0xD0]
  | .set_2_C => [0xCB, 0xD1]
  | .set_2_D => [0xCB, 0xD2]
  | .set_2_E => [0xCB, 0xD3]
  | .set_2_H => [0xCB, 0xD4]
  | .set_2_L => [0xCB, 0xD5]
  | .set_2_mHL => [0xCB, 0xD6]
  | .set_2_A => [0xCB, 0xD7]
  | .set_3_B => [0xCB, 0xD8]
  | .set_3_C => [0xCB, 0xD9]
  | .set_3_D => [0xCB, 0xDA]
  | .set_3_E => [0xCB, 0xDB]
  | .set_3_H => [0xCB, 0xDC]
  | .set_3_L => [0xCB, 0xDD]
  | .set_3_mHL => [0xCB, 0xDE]
  | .set_3_A => [0xCB, 0xDF]
  | .set_4_B => [0xCB, 0xE0]
  | .set_4_C => [0xCB, 0xE1]
  | .set_4_D => [0xCB, 0xE2]
  | .set_4_E => [0xCB, 0xE3]
  | .set_4_H => [0xCB, 0xE4]
  | .set_4_L => [0xCB, 0xE5]
  | .set_4_mHL => [0xCB, 0xE6]
  | .set_4_A => [0xCB, 0xE7]
  | .set_5_B => [0xCB, 0xE8]
  | .set_5_C => [0xCB, 0xE9]
  | .set_5_D => [0xCB, 0xEA]
  | .set_5_E => [0xCB, 0xEB]
  | .set_5_H => [0xCB, 0xEC]
  | .set_5_L => [0xCB, 0xED]
  | .set_5_mHL => [0xCB, 0xEE]
  | .set_5_A => [0xCB, 0xEF]
  | .set_6_B => [0xCB, 0xF0]
  | .set_6_C => [0xCB, 0xF1]
  | .set_6_D => [0xCB, 0xF2]
  | .set_6_E => [0xCB, 0xF3]
  | .set_6_H => [0xCB, 0xF4]
  | .set_6_L => [0xCB, 0xF5]
  | .set_6_mHL => [0xCB, 0xF6]
  | .set_6_A => [0xCB, 0xF7]
  | .set_7_B => [0xCB, 0xF8]
  | .set_7_C => [0xCB, 0xF9]
  | .set_7_D => [0xCB, 0xFA]
  | .set_7_E => [0xCB, 0xFB]
  | .set_7_H => [0xCB, 0xFC]
  | .set_7_L => [0xCB, 0xFD]
  | .set_7_mHL => [0xCB, 0xFE]
  | .set_7_A => [0xCB, 0xFF]

/-- The opcode byte of an instruction: the first byte of its encoding (R71). -/
def Instr.opcode (i : Instr) : Byte := (encode i).headD 0

/-- The number of bytes of an instruction (R54). -/
def Instr.length (i : Instr) : Nat := (encode i).length

/-! ## Words numbered as spec/opcode_table.json numbers them -/

/-- The bytes, in fetch order, of a word the table numbers. A row of the main table has its opcode byte in bits 7..0 and
operand bytes above it. A row of the CB table is one 16-bit number with the prefix byte in bits 15..8 and the sub-opcode in
bits 7..0, so a 16-bit word with 0xCB on top is that pair (log entry 9). Bits above `nbits` are 0. -/
def tableBytes (nbits w : Nat) : List Byte :=
  let v := w % 2 ^ nbits
  if nbits = 16 ∧ v / 256 = 0xCB then [0xCB, BitVec.ofNat 8 v, 0]
  else [BitVec.ofNat 8 v, BitVec.ofNat 8 (v / 256), BitVec.ofNat 8 (v / 65536)]

/-- The instruction the decoder reads from a word the opcode table numbers, with STOP_LEN at its default (R7). -/
def decodeTableWord (nbits w : Nat) : Option Instr :=
  match decode .two (tableBytes nbits w) with
  | .ok (i, _) => some i
  | .error _ => none

end Sys2Proof
end

