-- ==== Sys2Proof/Machine/State.lean ====
section
/-! DEFINITION. The state of the machine (spec/10_state.md), the bus (spec/20_memory.md) with the events of the other agents
that reach it, and what a step reports (spec/60_exceptions.md). Plain data throughout. -/

namespace Sys2Proof.Machine

/-- The seven general registers (R14, R15). -/
structure Regs where
  a : Byte
  b : Byte
  c : Byte
  d : Byte
  e : Byte
  h : Byte
  l : Byte
deriving DecidableEq, Repr

/-- The flag state: four independent booleans (R23). F is `Flags.toByte` of them. -/
structure Flags where
  z : Bool
  n : Bool
  h : Bool
  c : Bool
deriving DecidableEq, Repr

/-- The Memory Bus's storage (R34): the cells that do not hold what an unlisted address reads as, by rising address. -/
abbrev Memory := List Host.Cell

/-- What an unlisted address reads as. The spec leaves the construction contents open (INIT_MEM, R7, R184): a byte nothing
has written reads 0 (DESIGN CHOICE, unsafe; log entry 2). -/
def Memory.unlisted : Byte := 0

/-- The agents that reach the bus (R47). -/
inductive Agent where
  | engine | renderer | host
deriving DecidableEq, Repr

/-- Read or write, the two bus operations (R36). -/
inductive Access where
  | read | write
deriving DecidableEq, Repr

/-- One byte access of one agent: one atomic event of the bus's total order (R13, R43, R48). -/
structure BusEvent where
  agent : Agent
  access : Access
  addr : Addr
  value : Byte
deriving DecidableEq, Repr

/-- What an agent other than the engine, or the environment, does between two of the engine's bus accesses or between two
steps (R45, R47, R53, R69, R182, R186). -/
inductive ExtEvent where
  /-- The renderer polls a byte (R45). -/
  | rendererRead (a : Addr)
  /-- The renderer writes a byte; outside EXT_WRITE_SET this has no effect (R45; log entry 8). -/
  | rendererWrite (a : Addr) (v : Byte)
  /-- The host reads a byte (R47, R182). -/
  | hostRead (a : Addr)
  /-- The host writes a byte (R182, R186). -/
  | hostWrite (a : Addr) (v : Byte)
  /-- The host raises the stop signal (R30). -/
  | requestStop
  /-- The host clears the stop signal (R172, R176). -/
  | clearStop
  /-- The environment breaks the bus; nothing repairs it (R53). -/
  | breakBus
deriving DecidableEq, Repr

/-- An outcome after which the engine takes no further step (R70, R168), with the values it records (R168, R192). -/
inductive Terminal where
  /-- The sentinel was executed: the opcode byte and its address (R169). -/
  | fatal (op : Byte) (addr : Addr)
  /-- A bus access found the bus broken: the address of the instruction, and its opcode if it was fetched (R171). -/
  | resourceFault (addr : Addr) (op : Option Byte)
deriving DecidableEq, Repr

/-- `run_state` (R30). -/
inductive RunState where
  | running
  | faulted (t : Terminal)
deriving DecidableEq, Repr

/-- The outcome a step returns to its caller (R68). -/
inductive StepOutcome where
  /-- One instruction executed. -/
  | ok
  /-- The stop signal was set; nothing was executed (R172). -/
  | stopped
  /-- An unwired opcode was executed; recoverable (R170). -/
  | unimplemented (op : Byte)
  /-- Fatal or ResourceFault, of this step or of an earlier one (R70). -/
  | faulted (t : Terminal)
deriving DecidableEq, Repr

/-- The machine. -/
structure State where
  /-- A, B, C, D, E, H, L (R14). -/
  regs : Regs
  /-- Z, N, H, C (R23). -/
  flags : Flags
  /-- PC (R17). -/
  pc : Addr
  /-- SP (R19). -/
  sp : Addr
  /-- The Memory Bus (R34). -/
  mem : Memory
  /-- `stop_requested` (R30). -/
  stopRequested : Bool
  /-- `run_state` (R30). -/
  runState : RunState
  /-- `bus_broken` (R30). -/
  busBroken : Bool
  /-- `started` (R30). -/
  started : Bool
  /-- The named parameters of R7 that the running machine reads. -/
  params : Params
  /-- The outcome the last step returned (R68); none before the first step. -/
  lastOutcome : Option StepOutcome
  /-- The events of the bus so far in their total order, newest first (R48). -/
  busLog : List BusEvent
  /-- What the other agents do next (R47): one batch for each point at which they can act, the next point's first. -/
  schedule : List (List ExtEvent)
  /-- How many free draws have been taken. The model's own; it numbers the values of R171 (log entry 6). -/
  freeDraws : Nat
deriving DecidableEq, Repr

/-- Nothing in this machine ends a run: an error is an outcome the step returns, with a state after it, and a run ends only
when the host stops calling the step (R68, R175, R192). So no meaning answers a fault, and there is no reason for one. -/
inductive Fault where
deriving DecidableEq, Repr

/-- Why the model gives an instruction no meaning. -/
inductive Refusal where
  /-- Raised by an arm of `exec` whose instruction has no meaning yet, with the row's mnemonic. Safe: the run stops. -/
  | notModelled (mnemonic : String)
deriving DecidableEq, Repr

/-- What a meaning or a step answers. -/
abbrev Result := Host.Outcome State Fault Refusal

/-- The registers at construction (R32). -/
def Regs.reset : Regs := { a := 0x01, b := 0x00, c := 0x13, d := 0x00, e := 0xD8, h := 0x01, l := 0x4D }

/-- The flags at construction: from_byte(0xB0) (R32). -/
def Flags.reset : Flags := { z := true, n := false, h := true, c := true }

/-- The machine right after construction (R32, R184). SP and the bus contents are OPEN in the spec: SP is 0 and no byte is
listed (DESIGN CHOICE, unsafe; log entries 1 and 2). -/
def State.reset : State :=
  { regs := Regs.reset
    flags := Flags.reset
    pc := 0x0000
    sp := 0x0000
    mem := []
    stopRequested := false
    runState := .running
    busBroken := false
    started := false
    params := Params.default
    lastOutcome := none
    busLog := []
    schedule := []
    freeDraws := 0 }

end Sys2Proof.Machine
end

