-- ==== Sys2Proof/Machine/Ops.lean ====
section
/-! DEFINITION. The named operations over the register file, the flags codec, the bus and the outcomes of a step: the one place
each of them is read or written. -/

namespace Sys2Proof.Machine

/-! ## Flags codec (spec/10_state.md R23 to R25) -/

/-- `b2i` as a byte (R10). -/
def bitByte (b : Bool) : Byte := if b then 1 else 0

/-- `to_byte` (R24): Z, N, H, C in bits 7 to 4, the low nibble 0. -/
def Flags.toByte (f : Flags) : Byte :=
  bitByte f.z <<< 7 ||| bitByte f.n <<< 6 ||| bitByte f.h <<< 5 ||| bitByte f.c <<< 4

/-- `from_byte` (R25): bits 3 to 0 are ignored. -/
def Flags.ofByte (b : Byte) : Flags :=
  { z := b.getLsbD 7, n := b.getLsbD 6, h := b.getLsbD 5, c := b.getLsbD 4 }

/-- All flags false: the start of an incremental construction (R26). -/
def Flags.none : Flags := { z := false, n := false, h := false, c := false }

/-- Set Z (R10, R26). -/
def Flags.withZ (f : Flags) (v : Bool) : Flags := { f with z := v }

/-- Set N (R10, R26). -/
def Flags.withN (f : Flags) (v : Bool) : Flags := { f with n := v }

/-- Set H (R10, R26). -/
def Flags.withH (f : Flags) (v : Bool) : Flags := { f with h := v }

/-- Set C (R10, R26). -/
def Flags.withC (f : Flags) (v : Bool) : Flags := { f with c := v }

/-! ## Register file (R10, R14 to R22) -/

/-- `x[r]` of a register file. -/
def Regs.get (g : Regs) : Reg8 → Byte
  | .a => g.a
  | .b => g.b
  | .c => g.c
  | .d => g.d
  | .e => g.e
  | .h => g.h
  | .l => g.l

/-- `x[r] <- v` of a register file. -/
def Regs.put (g : Regs) : Reg8 → Byte → Regs
  | .a, v => { g with a := v }
  | .b, v => { g with b := v }
  | .c, v => { g with c := v }
  | .d, v => { g with d := v }
  | .e, v => { g with e := v }
  | .h, v => { g with h := v }
  | .l, v => { g with l := v }

/-- `x[r]` (R10). -/
def State.reg (s : State) (r : Reg8) : Byte := s.regs.get r

/-- `x[r] <- v` (R10). -/
def State.setReg (s : State) (r : Reg8) (v : Byte) : State := { s with regs := s.regs.put r v }

/-- Write all four flags. -/
def State.setFlags (s : State) (f : Flags) : State := { s with flags := f }

/-- `pc <- v` (R10). -/
def State.setPc (s : State) (v : Addr) : State := { s with pc := v }

/-- `sp <- v` (R10). -/
def State.setSp (s : State) (v : Addr) : State := { s with sp := v }

/-- `F`, the flag byte (R10, R24). -/
def State.f (s : State) : Byte := s.flags.toByte

/-- `pair(P)` (R20): the first-named register is the low byte. -/
def State.pair (s : State) : Pair → Addr
  | .af => joinBytes s.f s.regs.a
  | .bc => joinBytes s.regs.c s.regs.b
  | .de => joinBytes s.regs.e s.regs.d
  | .hl => joinBytes s.regs.l s.regs.h

/-- `pair(P) <- v` (R21); for AF the low nibble of F is dropped (R22). -/
def State.setPair (s : State) (p : Pair) (v : Addr) : State :=
  match p with
  | .af => (s.setReg .a (lowByte v)).setFlags (Flags.ofByte (highByte v))
  | .bc => (s.setReg .b (lowByte v)).setReg .c (highByte v)
  | .de => (s.setReg .d (lowByte v)).setReg .e (highByte v)
  | .hl => (s.setReg .h (lowByte v)).setReg .l (highByte v)

/-- `pair(HL)`, the address of the operand (HL) (R57). -/
def State.hl (s : State) : Addr := s.pair .hl

/-- The 16-bit register `rr` (R58): a pair or SP. -/
def State.wide (s : State) : Wide → Addr
  | .bc => s.pair .bc
  | .de => s.pair .de
  | .hl => s.pair .hl
  | .sp => s.sp

/-- Write the 16-bit register `rr`. -/
def State.setWide (s : State) (p : Wide) (v : Addr) : State :=
  match p with
  | .bc => s.setPair .bc v
  | .de => s.setPair .de v
  | .hl => s.setPair .hl v
  | .sp => s.setSp v

/-! ## Storage (R34 to R37) -/

/-- The cell at `a`, or what an unlisted address reads as. -/
def Memory.find : Memory → Nat → Byte
  | [], _ => Memory.unlisted
  | (k, v) :: rest, a => if k = a then v else Memory.find rest a

/-- Put a cell in its place by rising address. -/
def Memory.insert : Memory → Nat → Byte → Memory
  | [], a, v => [(a, v)]
  | (k, w) :: rest, a, v => if a < k then (a, v) :: (k, w) :: rest else (k, w) :: Memory.insert rest a v

/-- Take the cell at `a` out. -/
def Memory.erase (m : Memory) (a : Nat) : Memory := m.filter fun cell => cell.1 != a

/-- `read(addr)` (R36). The address type is the bus's size, so no access can leave the array (R37). -/
def Memory.read (m : Memory) (a : Addr) : Byte := m.find a.toNat

/-- `write(addr, value)` (R36). A cell that comes to hold what an unlisted address reads as is not listed. -/
def Memory.write (m : Memory) (a : Addr) (v : Byte) : Memory :=
  if v = Memory.unlisted then m.erase a.toNat else (m.erase a.toNat).insert a.toNat v

/-- The storage that a list of bytes written one after another leaves. -/
def Memory.ofCells : List (Addr × Byte) → Memory
  | [] => []
  | (a, v) :: rest => (Memory.ofCells rest).write a v

/-! ## The other agents (R45, R47, R53) -/

/-- The address is in EXT_WRITE_SET (R45). -/
def rendererMayWrite (p : Params) (a : Addr) : Bool :=
  highByte a == 0xFF && p.extWriteSet.any fun r => r.1 ≤ lowByte a && lowByte a ≤ r.2

/-- Append a bus event to the total order (R48). -/
def State.logged (s : State) (e : BusEvent) : State := { s with busLog := e :: s.busLog }

/-- One byte read by an agent (R36, R43): it changes nothing but the order of events. -/
def State.afterAgentRead (s : State) (g : Agent) (a : Addr) : State := s.logged ⟨g, .read, a, s.mem.read a⟩

/-- One byte write by an agent (R36, R43). -/
def State.afterAgentWrite (s : State) (g : Agent) (a : Addr) (v : Byte) : State :=
  { s with mem := s.mem.write a v }.logged ⟨g, .write, a, v⟩

/-- What an event from outside the engine does. None of them reaches a register or a flag (R29). -/
def State.applyExt (s : State) : ExtEvent → State
  | .rendererRead a => s.afterAgentRead .renderer a
  | .rendererWrite a v => if rendererMayWrite s.params a then s.afterAgentWrite .renderer a v else s
  | .hostRead a => s.afterAgentRead .host a
  | .hostWrite a v => s.afterAgentWrite .host a v
  | .requestStop => { s with stopRequested := true }
  | .clearStop => { s with stopRequested := false }
  | .breakBus => { s with busBroken := true }

/-- A batch of events, in order. -/
def State.applyBatch (s : State) : List ExtEvent → State
  | [] => s
  | e :: rest => (s.applyExt e).applyBatch rest

/-- A point at which the other agents can act, between two bus accesses of the engine or between two steps (R47): the next
batch of the schedule lands. -/
def State.admitOne (s : State) : State :=
  match s.schedule with
  | [] => s
  | batch :: rest => { s with schedule := rest }.applyBatch batch

/-! ## The engine's bus accesses (R11, R36, R47, R53) -/

/-- The answer of something that uses the bus: a value and the state after it, or the state in which an access found the bus
broken, before that access happened. -/
inductive Bus (α : Type) where
  | ok (value : α) (s : State)
  | broken (s : State)

/-- Go on after an access that happened. -/
def Bus.andThen {α β : Type} (m : Bus α) (k : α → State → Bus β) : Bus β :=
  match m with
  | .ok v s => k v s
  | .broken s => .broken s

/-- The byte an engine read of `a` gets: the other agents may act first, then it reads the latest write (R47, R48). -/
def State.valueAt (s : State) (a : Addr) : Byte := s.admitOne.mem.read a

/-- The state after an engine read of `a`. -/
def State.afterRead (s : State) (a : Addr) : State := s.admitOne.afterAgentRead .engine a

/-- The state after an engine write of `v` at `a`. -/
def State.afterWrite (s : State) (a : Addr) (v : Byte) : State := s.admitOne.afterAgentWrite .engine a v

/-- `MemRead(a, 1)` (R11, R53). -/
def busRead (a : Addr) (s : State) : Bus Byte :=
  if s.admitOne.busBroken then .broken s.admitOne else .ok (s.valueAt a) (s.afterRead a)

/-- `MemWrite(a, 1, v)` (R11, R53). -/
def busWrite (a : Addr) (v : Byte) (s : State) : Bus Unit :=
  if s.admitOne.busBroken then .broken s.admitOne else .ok () (s.afterWrite a v)

/-- Bytes read one after another at rising addresses (R40, R73). -/
def busReadBytes (a : Addr) : Nat → State → Bus (List Byte)
  | 0, s => .ok [] s
  | k + 1, s =>
    (busRead a s).andThen fun b s => (busReadBytes (a + 1) k s).andThen fun bs s => .ok (b :: bs) s

/-- `MemWrite(a, 2, v)` (R40): the low byte at `a`, then the high byte at `a + 1`. -/
def busWrite16 (a : Addr) (v : Addr) (s : State) : Bus Unit :=
  (busWrite a (lowByte v) s).andThen fun _ s => busWrite (a + 1) (highByte v) s

/-- `Push16(v)` (R127): SP falls by one before each write, the high byte first. -/
def push16 (v : Addr) (s : State) : Bus Unit :=
  (busWrite (s.sp - 1) (highByte v) (s.setSp (s.sp - 1))).andThen fun _ s =>
    busWrite (s.sp - 1) (lowByte v) (s.setSp (s.sp - 1))

/-- `Pop16()` (R128): the low byte first, SP rises by one after each read. -/
def pop16 (s : State) : Bus Addr :=
  (busRead s.sp s).andThen fun lo s =>
    let s := s.setSp (s.sp + 1)
    (busRead s.sp s).andThen fun hi s => .ok (joinBytes hi lo) (s.setSp (s.sp + 1))

/-! ## Outcomes of a step (spec/60_exceptions.md R168 to R176)

The CORE's errors vector nowhere and save nothing: the step returns the outcome, and coming back from one is calling the step
again (R175, R176). -/

/-- Return an outcome to the caller of the step (R68). -/
def State.returning (s : State) (o : StepOutcome) : State := { s with lastOutcome := some o }

/-- Enter the Faulted state (R30, R70) and return its outcome. -/
def State.raiseTerminal (s : State) (t : Terminal) : State :=
  { s with runState := .faulted t }.returning (.faulted t)

/-- `raise Fatal(op, addr)` (R169): nothing else changes. -/
def State.raiseFatal (s : State) (op : Byte) (addr : Addr) : State := s.raiseTerminal (.fatal op addr)

/-- `raise Unimplemented(op)` (R170): `run_state` stays Running and nothing else changes. -/
def State.raiseUnimplemented (s : State) (op : Byte) : State := s.returning (.unimplemented op)

/-- Registers the spec leaves unspecified. -/
def Regs.free (draw : Nat) : Regs :=
  { a := Config.freeByte draw 0, b := Config.freeByte draw 1, c := Config.freeByte draw 2, d := Config.freeByte draw 3
    e := Config.freeByte draw 4, h := Config.freeByte draw 5, l := Config.freeByte draw 6 }

/-- Flags the spec leaves unspecified. -/
def Flags.free (draw : Nat) : Flags :=
  { z := Config.freeFlag draw 0, n := Config.freeFlag draw 1, h := Config.freeFlag draw 2, c := Config.freeFlag draw 3 }

/-- "The state of registers, flags and bus after it is unspecified" (R171): free values, fresh for every draw. The record of
bus events is not among them: R171 leaves open whether the accesses before the failing one took effect, and the record keeps
them as made (DESIGN CHOICE, unsafe; log entry 18). -/
def State.scrambled (s : State) : State :=
  { s with
    regs := Regs.free s.freeDraws
    flags := Flags.free s.freeDraws
    pc := Config.freeAddr s.freeDraws 0
    sp := Config.freeAddr s.freeDraws 1
    mem := Memory.ofCells (Config.freeCells s.freeDraws)
    freeDraws := s.freeDraws + 1 }

/-- `raise ResourceFault(addr, op?)` (R171). -/
def State.raiseResourceFault (s : State) (addr : Addr) (op : Option Byte) : State :=
  s.scrambled.raiseTerminal (.resourceFault addr op)

/-! ## Ending an instruction (spec/40_cycle.md R75) -/

/-- A meaning that makes no bus access in its execute phase ends with Ok. -/
def done (s : State) : Result := .next (s.returning .ok)

/-- Ends the instruction `i` begun in state `s`, where PC is just past it (R74): Ok if its accesses happened, else
`ResourceFault` with its address and opcode (R171). -/
def finish (i : Instr) (s : State) : Bus Unit → Result
  | .ok _ t => done t
  | .broken t => .next (t.raiseResourceFault (s.pc - BitVec.ofNat 16 i.length) (some i.opcode))

/-- The dispatch of an unwired descriptor (R75). -/
def unwired (op : Byte) (s : State) : Result := .next (s.raiseUnimplemented op)

/-- The dispatch of the sentinel descriptor (R75, R166): `A0` is one below PC, since it has no extra bytes. -/
def sentinel (op : Byte) (s : State) : Result := .next (s.raiseFatal op (s.pc - 1))

end Sys2Proof.Machine
end

