-- ==== Sys2Proof/Machine/Fetch.lean ====
section
/-! DEFINITION. The part of a step before the execute phase (spec/40_cycle.md R69 to R74): the checks at its start, the
fetch, the decode, the PC advance. -/

namespace Sys2Proof.Machine

/-- The answer of a fetch: the descriptor and the state after its reads, or the state in which a read found the bus broken,
with the opcode if it had been read (R171). -/
inductive Fetched where
  | ok (d : Descriptor) (s : State)
  | broken (op : Option Byte) (s : State)

/-- Fetch and decode (R71 to R73): the opcode byte at PC, then the bytes its length calls for, each read once, at rising
addresses, before any access of the execute phase. -/
def fetch (s : State) : Fetched :=
  match busRead s.pc s with
  | .broken t => .broken none t
  | .ok op t =>
    match busReadBytes (s.pc + 1) (extraBytes s.params.stopLen op) t with
    | .broken u => .broken (some op) u
    | .ok bs u => .ok (describe s.params.stopLen op (bs.getD 0 0) (bs.getD 1 0)) u

/-- The PC advance (R18, R74): past the opcode byte and its extra bytes, modulo 2^16. -/
def State.advance (s : State) (d : Descriptor) : State := s.setPc (s.pc + 1 + BitVec.ofNat 16 d.extra)

/-- The first step sets `started` (R184). -/
def State.markStarted (s : State) : State := { s with started := true }

/-- How a step begins: it ends at once, or an instruction is dispatched on a state whose PC is past it. -/
inductive Begun where
  | ended (s : State)
  | dispatch (i : Instr) (s : State)

/-- The fetch, decode and PC advance of a step that runs an instruction (R71 to R74). -/
def beginInstruction (s : State) : Begun :=
  match fetch s with
  | .broken op t => .ended (t.raiseResourceFault s.pc op)
  | .ok d t => .dispatch d.instr (t.advance d)

/-- The start of a step, in the order of R174: other agents may have acted since the last step (R47), then a Faulted engine
returns its outcome (R70), then a set stop signal returns Stopped (R69, R172), and else an instruction is fetched. A step
that ends before its fetch changes no state of the CORE (log entry 11). -/
def beginStep (s : State) : Begun :=
  let t := s.admitOne
  match t.runState with
  | .faulted o => .ended (t.returning (.faulted o))
  | .running => if t.stopRequested then .ended (t.returning .stopped) else beginInstruction t.markStarted

/-- Store bytes from an address upward, with no bus event: a load from outside the machine. -/
def Memory.load (m : Memory) (a : Addr) : List Byte → Memory
  | [] => m
  | b :: rest => (m.write a b).load (a + 1) rest

/-- The state with `bytes` at PC and nothing in the way of the next step running the instruction they begin: the engine
Running, the bus whole, no stop signal, no event of another agent before or during the fetch. -/
def State.placed (s : State) (bytes : List Byte) : State :=
  { s with mem := s.mem.load s.pc bytes, runState := .running, stopRequested := false, busBroken := false, schedule := [] }

end Sys2Proof.Machine
end

