-- ==== Sys2Proof/Machine/Construct.lean ====
section
/-! DEFINITION. Construction of the machine, the program image, and what the host may do before the first step
(spec/70_reset_and_hazards.md R184 to R186). -/

namespace Sys2Proof.Machine

/-- The arguments of a construction (R7, R184). -/
structure Construction where
  /-- SP_INIT, any 16-bit value. -/
  spInit : Addr
  /-- INIT_MEM, as bytes stored at addresses; an address not among them reads as an unlisted one does. -/
  initMem : List (Addr × Byte)
  /-- The program image (R185). -/
  image : List Byte
  /-- STOP_LEN, AND_SETS_H, EXT_WRITE_SET. -/
  params : Params
deriving DecidableEq, Repr

/-- The engine over a bus that holds INIT_MEM and then the program image from 0x0000 upward (R184, R185). An image longer than
the bus is refused and no engine is built. -/
def construct (c : Construction) : Option State :=
  if c.image.length ≤ 0x10000 then
    some { State.reset with sp := c.spInit, mem := (Memory.ofCells c.initMem).load 0 c.image, params := c.params }
  else none

/-- The host sets PC (R186); refused once the engine has started. -/
def State.hostSetPc (s : State) (v : Addr) : Option State := if s.started then none else some (s.setPc v)

/-- The host sets SP (R186); refused once the engine has started. -/
def State.hostSetSp (s : State) (v : Addr) : Option State := if s.started then none else some (s.setSp v)

end Sys2Proof.Machine
end

