-- ==== Sys2Proof/Machine/Flags.lean ====
section
/-! DEFINITION. Every result and flag computation of spec/41_alu8.md, spec/42_alu16.md and spec/46_bitops.md, over values alone:
exact integer arithmetic, narrowed at the end (R9). A flag an instruction does not write is passed through. -/

namespace Sys2Proof.Machine

/-- An 8-bit result with the flags after it. -/
structure Result8 where
  out : Byte
  flags : Flags
deriving DecidableEq, Repr

/-- A 16-bit result with the flags after it. -/
structure Result16 where
  out : Addr
  flags : Flags
deriving DecidableEq, Repr

/-- `b2i` (R10). -/
def b2i (b : Bool) : Nat := if b then 1 else 0

/-! ## Addition, subtraction, logic (R81, R82, R87 to R89) -/

/-- `add8(a, b, cin)` (R81). -/
def add8 (a b : Byte) (cin : Bool) : Result8 :=
  let res := a.toNat + b.toNat + b2i cin
  let out := BitVec.ofNat 8 res
  { out
    flags :=
      { z := out == 0
        n := false
        h := decide (a.toNat % 16 + b.toNat % 16 + b2i cin > 0x0F)
        c := decide (res > 0xFF) } }

/-- `sub8(a, b, bin)` (R82): H and C are borrows. -/
def sub8 (a b : Byte) (bin : Bool) : Result8 :=
  let res : Int := (a.toNat : Int) - b.toNat - b2i bin
  let out := BitVec.ofInt 8 res
  { out
    flags :=
      { z := out == 0
        n := true
        h := decide (((a.toNat % 16 : Nat) : Int) - (b.toNat % 16 : Nat) - b2i bin < 0)
        c := decide (res < 0) } }

/-- The flags of AND, XOR and OR (R87 to R89): Z from the result, N and C cleared, H as given. -/
def logic8 (out : Byte) (h : Bool) : Result8 :=
  { out, flags := { z := out == 0, n := false, h, c := false } }

/-! ## Increment and decrement (R91 to R94) -/

/-- `INC`: C passes through. -/
def inc8 (v : Byte) (f : Flags) : Result8 :=
  let out := v + 1
  { out, flags := { z := out == 0, n := false, h := decide (v.toNat % 16 = 0x0F), c := f.c } }

/-- `DEC`: C passes through. -/
def dec8 (v : Byte) (f : Flags) : Result8 :=
  let out := v - 1
  { out, flags := { z := out == 0, n := true, h := decide (v.toNat % 16 = 0x00), c := f.c } }

/-! ## Accumulator and flag operations (R95 to R98) -/

/-- `DAA` (R95): the additions and subtractions are exact, narrowed at the end; N passes through. -/
def daa8 (a : Byte) (f : Flags) : Result8 :=
  let high : Bool := !f.n && (f.c || decide (a.toNat > 0x99))
  let low : Bool := !f.n && (f.h || decide (a.toNat % 16 > 0x09))
  let sum : Int :=
    if f.n then (a.toNat : Int) - (if f.c then 0x60 else 0) - (if f.h then 0x06 else 0)
    else (a.toNat : Int) + (if high then 0x60 else 0) + (if low then 0x06 else 0)
  let out := BitVec.ofInt 8 sum
  { out, flags := { z := out == 0, n := f.n, h := false, c := f.c || high } }

/-- `CPL` (R96): Z and C pass through. -/
def cpl8 (a : Byte) (f : Flags) : Result8 :=
  { out := a ^^^ 0xFF, flags := { z := f.z, n := true, h := true, c := f.c } }

/-- `SCF` (R97): Z passes through. -/
def scfFlags (f : Flags) : Flags := { z := f.z, n := false, h := false, c := true }

/-- `CCF` (R98): Z passes through. -/
def ccfFlags (f : Flags) : Flags := { z := f.z, n := false, h := false, c := !f.c }

/-! ## 16-bit arithmetic (R100, R103, R104) -/

/-- `ADD HL,rr` (R100): carries out of bits 11 and 15; Z passes through. -/
def add16 (a b : Addr) (f : Flags) : Result16 :=
  let res := a.toNat + b.toNat
  { out := BitVec.ofNat 16 res
    flags :=
      { z := f.z
        n := false
        h := decide (a.toNat % 0x1000 + b.toNat % 0x1000 > 0x0FFF)
        c := decide (res > 0xFFFF) } }

/-- `SP + e8` of ADD SP,e8 and LD HL,SP+e8 (R103, R104): H and C are the carries of the unsigned add of the low byte of SP and
the raw byte, whatever the sign of `e8`. -/
def addSpOffset (s : Addr) (u : Byte) : Result16 :=
  { out := s + signExtend8 u
    flags :=
      { z := false
        n := false
        h := decide (s.toNat % 16 + u.toNat % 16 > 0x0F)
        c := decide (s.toNat % 256 + u.toNat > 0xFF) } }

/-! ## Rotates and shifts (R144 to R156) -/

/-- A result with the bit that left it. -/
structure Shifted where
  out : Byte
  carry : Bool
deriving DecidableEq, Repr

/-- Rotate left circular (R144, R149). -/
def rotateLeft (v : Byte) : Shifted := { out := v <<< 1 ||| bitByte (v.getLsbD 7), carry := v.getLsbD 7 }

/-- Rotate right circular (R145, R150). -/
def rotateRight (v : Byte) : Shifted := { out := v >>> 1 ||| bitByte (v.getLsbD 0) <<< 7, carry := v.getLsbD 0 }

/-- Rotate left through carry (R146, R151). -/
def rotateLeftCarry (v : Byte) (c : Bool) : Shifted := { out := v <<< 1 ||| bitByte c, carry := v.getLsbD 7 }

/-- Rotate right through carry (R147, R152). -/
def rotateRightCarry (v : Byte) (c : Bool) : Shifted := { out := v >>> 1 ||| bitByte c <<< 7, carry := v.getLsbD 0 }

/-- Shift left arithmetic (R153): bit 0 becomes 0. -/
def shiftLeft (v : Byte) : Shifted := { out := v <<< 1, carry := v.getLsbD 7 }

/-- Shift right arithmetic (R154): bit 7 is kept. -/
def shiftRightArith (v : Byte) : Shifted := { out := v >>> 1 ||| (v &&& 0x80), carry := v.getLsbD 0 }

/-- Exchange the nibbles (R155): C is cleared. -/
def swapNibbles (v : Byte) : Shifted := { out := v <<< 4 ||| v >>> 4, carry := false }

/-- Shift right logical (R156): bit 7 becomes 0. -/
def shiftRightLogic (v : Byte) : Shifted := { out := v >>> 1, carry := v.getLsbD 0 }

/-- The result of a CB rotate or shift, given C before it (R149 to R156). -/
def rotShifted (op : RotOp) (v : Byte) (c : Bool) : Shifted :=
  match op with
  | .rlc => rotateLeft v
  | .rrc => rotateRight v
  | .rl => rotateLeftCarry v c
  | .rr => rotateRightCarry v c
  | .sla => shiftLeft v
  | .sra => shiftRightArith v
  | .swap => swapNibbles v
  | .srl => shiftRightLogic v

/-- A CB rotate or shift with its flags: Z from the result, N and H cleared (R149 to R156). -/
def rot8 (op : RotOp) (v : Byte) (f : Flags) : Result8 :=
  let r := rotShifted op v f.c
  { out := r.out, flags := { z := r.out == 0, n := false, h := false, c := r.carry } }

/-- The result of a rotate of A (R144 to R147). -/
def accRotShifted (op : AccRotOp) (v : Byte) (c : Bool) : Shifted :=
  match op with
  | .rlca => rotateLeft v
  | .rrca => rotateRight v
  | .rla => rotateLeftCarry v c
  | .rra => rotateRightCarry v c

/-- A rotate of A with its flags: Z is cleared even when the result is 0 (R144 to R147). -/
def accRot8 (op : AccRotOp) (v : Byte) (f : Flags) : Result8 :=
  let r := accRotShifted op v f.c
  { out := r.out, flags := { z := false, n := false, h := false, c := r.carry } }

/-! ## Single bits (R157 to R159) -/

/-- `1 << b`. -/
def bitMask (b : Fin 8) : Byte := (1 : Byte) <<< b.val

/-- The flags of `BIT b` (R157): C passes through. -/
def bitFlags (b : Fin 8) (v : Byte) (f : Flags) : Flags := { z := !v.getLsbD b.val, n := false, h := true, c := f.c }

/-- `RES b` (R158). -/
def resetBit (b : Fin 8) (v : Byte) : Byte := v &&& ~~~bitMask b

/-- `SET b` (R159). -/
def setBit (b : Fin 8) (v : Byte) : Byte := v ||| bitMask b

end Sys2Proof.Machine
end

