-- ==== Sys2Proof/Machine/Operands.lean ====
section
/-! DEFINITION. Operand forms and effective addresses (spec/30_encoding.md R57 to R60, spec/41_alu8.md R80, spec/46_bitops.md
R148), conditions (spec/45_control.md R132), and the shapes an instruction has by its operand: on a register, on the byte
at (HL), with an immediate. -/

namespace Sys2Proof.Machine

/-- `cond(cc)` (R132). -/
def State.cond (s : State) : Cond → Bool
  | .nz => !s.flags.z
  | .z => s.flags.z
  | .nc => !s.flags.c
  | .c => s.flags.c

/-- The effective address of an indirect operand (R58, R110 to R117). -/
def State.indirectAddr (s : State) : Indirect → Addr
  | .bc => s.pair .bc
  | .de => s.pair .de
  | .hlInc => s.hl
  | .hlDec => s.hl

/-- What an indirect operand at address `a` leaves in HL: (HL+) and (HL-) write it, (BC) and (DE) do not (R110 to R117). -/
def State.stepIndirect (s : State) (p : Indirect) (a : Addr) : State :=
  match p with
  | .bc => s
  | .de => s
  | .hlInc => s.setPair .hl (a + 1)
  | .hlDec => s.setPair .hl (a - 1)

/-- An address of the page 0xFF00-0xFFFF (R59, R120 to R123). -/
def pageAddr (offset : Byte) : Addr := joinBytes 0xFF offset

/-! ## Reading and writing the operand (HL) -/

/-- Read the byte at (HL) and go on with it; nothing is written back (R80, R148). -/
def withMHL (k : Byte → State → State) (s : State) : Bus Unit :=
  (busRead s.hl s).andThen fun v s => .ok () (k v s)

/-- Read the byte at (HL), write `f v` back to the same address, then go on (R92, R94, R148): HL is read once, and the two
accesses are separate bus events. -/
def modifyMHL (f : Byte → State → Byte) (k : Byte → State → State) (s : State) : Bus Unit :=
  (busRead s.hl s).andThen fun v t => (busWrite s.hl (f v t) t).andThen fun _ t => .ok () (k v t)

/-! ## The two-operand accumulator operations (R83 to R90) -/

/-- Write a result to A and the flags. -/
def State.accumulate (s : State) (r : Result8) : State := (s.setReg .a r.out).setFlags r.flags

/-- The operation `op` on A and the source value `v`. CP writes no register (R90). -/
def aluOn (op : AluOp) (v : Byte) (s : State) : State :=
  match op with
  | .add => s.accumulate (add8 s.regs.a v false)
  | .adc => s.accumulate (add8 s.regs.a v s.flags.c)
  | .sub => s.accumulate (sub8 s.regs.a v false)
  | .sbc => s.accumulate (sub8 s.regs.a v s.flags.c)
  | .and => s.accumulate (logic8 (s.regs.a &&& v) s.params.andSetsH)
  | .xor => s.accumulate (logic8 (s.regs.a ^^^ v) false)
  | .or => s.accumulate (logic8 (s.regs.a ||| v) false)
  | .cp => s.setFlags (sub8 s.regs.a v false).flags

/-! ## Read-modify-write of a register or of (HL) -/

/-- Write a result to a register and the flags. -/
def State.putResult (s : State) (r : Reg8) (x : Result8) : State := (s.setReg r x.out).setFlags x.flags

/-- `INC r` and the like: the result of `f` on the register and the flags goes back to it. -/
def modifyReg (f : Byte → Flags → Result8) (r : Reg8) (s : State) : State := s.putResult r (f (s.reg r) s.flags)

/-- `INC (HL)` and the like: the result of `f` goes back to memory, then the flags are written. -/
def modifyMem (f : Byte → Flags → Result8) (s : State) : Bus Unit :=
  modifyMHL (fun v t => (f v t.flags).out) (fun v t => t.setFlags (f v t.flags).flags) s

/-- `RES b,r` and `SET b,r`: no flag is written. -/
def rewriteReg (f : Byte → Byte) (r : Reg8) (s : State) : State := s.setReg r (f (s.reg r))

/-- `RES b,(HL)` and `SET b,(HL)`: the write happens whatever the bit was (R158). -/
def rewriteMem (f : Byte → Byte) (s : State) : Bus Unit := modifyMHL (fun v _ => f v) (fun _ t => t) s

end Sys2Proof.Machine
end

