-- ==== Sys2Proof/Machine/Alu16.lean ====
section
/-! DEFINITION. 16-bit arithmetic (spec/42_alu16.md R100 to R104). None of these makes a bus access. -/

namespace Sys2Proof.Machine

/-! ## Shared operations -/

/-- `ADD HL,rr` (R100). -/
def addToHl (p : Wide) (s : State) : Result :=
  done ((s.setPair .hl (add16 s.hl (s.wide p) s.flags).out).setFlags (add16 s.hl (s.wide p) s.flags).flags)

/-- `INC rr` (R101): no flag changes. -/
def incWide (p : Wide) (s : State) : Result := done (s.setWide p (s.wide p + 1))

/-- `DEC rr` (R102): no flag changes. -/
def decWide (p : Wide) (s : State) : Result := done (s.setWide p (s.wide p - 1))

/-! ## The instructions, in the order of the opcode table -/

/-- `INC BC` (R101). -/
def execINC_BC (s : State) : Result := incWide .bc s

/-- `ADD HL,BC` (R100). -/
def execADD_HL_BC (s : State) : Result := addToHl .bc s

/-- `DEC BC` (R102). -/
def execDEC_BC (s : State) : Result := decWide .bc s

/-- `INC DE` (R101). -/
def execINC_DE (s : State) : Result := incWide .de s

/-- `ADD HL,DE` (R100). -/
def execADD_HL_DE (s : State) : Result := addToHl .de s

/-- `DEC DE` (R102). -/
def execDEC_DE (s : State) : Result := decWide .de s

/-- `INC HL` (R101). -/
def execINC_HL (s : State) : Result := incWide .hl s

/-- `ADD HL,HL` (R100). -/
def execADD_HL_HL (s : State) : Result := addToHl .hl s

/-- `DEC HL` (R102). -/
def execDEC_HL (s : State) : Result := decWide .hl s

/-- `INC SP` (R101). -/
def execINC_SP (s : State) : Result := incWide .sp s

/-- `ADD HL,SP` (R100). -/
def execADD_HL_SP (s : State) : Result := addToHl .sp s

/-- `DEC SP` (R102). -/
def execDEC_SP (s : State) : Result := decWide .sp s

/-- `ADD SP,e8` (R103). -/
def execADD_SP_e8 (e : Byte) (s : State) : Result := done ((s.setSp (addSpOffset s.sp e).out).setFlags (addSpOffset s.sp e).flags)

/-- `LD HL,SP+e8` (R104). -/
def execLD_HL_SPe8 (e : Byte) (s : State) : Result := done ((s.setPair .hl (addSpOffset s.sp e).out).setFlags (addSpOffset s.sp e).flags)

end Sys2Proof.Machine
end

