-- ==== Sys2Proof/Machine/Alu8.lean ====
section
/-! DEFINITION. 8-bit arithmetic and logic (spec/41_alu8.md R80 to R99). -/

namespace Sys2Proof.Machine

/-! ## Shared operations -/

/-- `op A,r` (R83 to R90). -/
def aluReg (op : AluOp) (r : Reg8) (s : State) : Result := done (aluOn op (s.reg r) s)

/-- `op A,n8` (R83 to R90). -/
def aluImm (op : AluOp) (n : Byte) (s : State) : Result := done (aluOn op n s)

/-- `op A,(HL)` (R83 to R90). -/
def aluMHL (i : Instr) (op : AluOp) (s : State) : Result := finish i s (withMHL (fun v t => aluOn op v t) s)

/-! ## The instructions, in the order of the opcode table -/

/-- `INC B` (R91). -/
def execINC_B (s : State) : Result := done (modifyReg inc8 .b s)

/-- `DEC B` (R93). -/
def execDEC_B (s : State) : Result := done (modifyReg dec8 .b s)

/-- `INC C` (R91). -/
def execINC_C (s : State) : Result := done (modifyReg inc8 .c s)

/-- `DEC C` (R93). -/
def execDEC_C (s : State) : Result := done (modifyReg dec8 .c s)

/-- `INC D` (R91). -/
def execINC_D (s : State) : Result := done (modifyReg inc8 .d s)

/-- `DEC D` (R93). -/
def execDEC_D (s : State) : Result := done (modifyReg dec8 .d s)

/-- `INC E` (R91). -/
def execINC_E (s : State) : Result := done (modifyReg inc8 .e s)

/-- `DEC E` (R93). -/
def execDEC_E (s : State) : Result := done (modifyReg dec8 .e s)

/-- `INC H` (R91). -/
def execINC_H (s : State) : Result := done (modifyReg inc8 .h s)

/-- `DEC H` (R93). -/
def execDEC_H (s : State) : Result := done (modifyReg dec8 .h s)

/-- `DAA` (R95). -/
def execDAA (s : State) : Result := done (s.accumulate (daa8 s.regs.a s.flags))

/-- `INC L` (R91). -/
def execINC_L (s : State) : Result := done (modifyReg inc8 .l s)

/-- `DEC L` (R93). -/
def execDEC_L (s : State) : Result := done (modifyReg dec8 .l s)

/-- `CPL` (R96). -/
def execCPL (s : State) : Result := done (s.accumulate (cpl8 s.regs.a s.flags))

/-- `INC (HL)` (R92). -/
def execINC_mHL (s : State) : Result := finish .inc_mHL s (modifyMem inc8 s)

/-- `DEC (HL)` (R94). -/
def execDEC_mHL (s : State) : Result := finish .dec_mHL s (modifyMem dec8 s)

/-- `SCF` (R97). -/
def execSCF (s : State) : Result := done (s.setFlags (scfFlags s.flags))

/-- `INC A` (R91). -/
def execINC_A (s : State) : Result := done (modifyReg inc8 .a s)

/-- `DEC A` (R93). -/
def execDEC_A (s : State) : Result := done (modifyReg dec8 .a s)

/-- `CCF` (R98). -/
def execCCF (s : State) : Result := done (s.setFlags (ccfFlags s.flags))

/-- `ADD A,B` (R83). -/
def execADD_A_B (s : State) : Result := aluReg .add .b s

/-- `ADD A,C` (R83). -/
def execADD_A_C (s : State) : Result := aluReg .add .c s

/-- `ADD A,D` (R83). -/
def execADD_A_D (s : State) : Result := aluReg .add .d s

/-- `ADD A,E` (R83). -/
def execADD_A_E (s : State) : Result := aluReg .add .e s

/-- `ADD A,H` (R83). -/
def execADD_A_H (s : State) : Result := aluReg .add .h s

/-- `ADD A,L` (R83). -/
def execADD_A_L (s : State) : Result := aluReg .add .l s

/-- `ADD A,(HL)` (R83). -/
def execADD_A_mHL (s : State) : Result := aluMHL .add_A_mHL .add s

/-- `ADD A,A` (R83). -/
def execADD_A_A (s : State) : Result := aluReg .add .a s

/-- `ADC A,B` (R84). -/
def execADC_A_B (s : State) : Result := aluReg .adc .b s

/-- `ADC A,C` (R84). -/
def execADC_A_C (s : State) : Result := aluReg .adc .c s

/-- `ADC A,D` (R84). -/
def execADC_A_D (s : State) : Result := aluReg .adc .d s

/-- `ADC A,E` (R84). -/
def execADC_A_E (s : State) : Result := aluReg .adc .e s

/-- `ADC A,H` (R84). -/
def execADC_A_H (s : State) : Result := aluReg .adc .h s

/-- `ADC A,L` (R84). -/
def execADC_A_L (s : State) : Result := aluReg .adc .l s

/-- `ADC A,(HL)` (R84). -/
def execADC_A_mHL (s : State) : Result := aluMHL .adc_A_mHL .adc s

/-- `ADC A,A` (R84). -/
def execADC_A_A (s : State) : Result := aluReg .adc .a s

/-- `SUB A,B` (R85). -/
def execSUB_A_B (s : State) : Result := aluReg .sub .b s

/-- `SUB A,C` (R85). -/
def execSUB_A_C (s : State) : Result := aluReg .sub .c s

/-- `SUB A,D` (R85). -/
def execSUB_A_D (s : State) : Result := aluReg .sub .d s

/-- `SUB A,E` (R85). -/
def execSUB_A_E (s : State) : Result := aluReg .sub .e s

/-- `SUB A,H` (R85). -/
def execSUB_A_H (s : State) : Result := aluReg .sub .h s

/-- `SUB A,L` (R85). -/
def execSUB_A_L (s : State) : Result := aluReg .sub .l s

/-- `SUB A,(HL)` (R85). -/
def execSUB_A_mHL (s : State) : Result := aluMHL .sub_A_mHL .sub s

/-- `SUB A,A` (R85). -/
def execSUB_A_A (s : State) : Result := aluReg .sub .a s

/-- `SBC A,B` (R86). -/
def execSBC_A_B (s : State) : Result := aluReg .sbc .b s

/-- `SBC A,C` (R86). -/
def execSBC_A_C (s : State) : Result := aluReg .sbc .c s

/-- `SBC A,D` (R86). -/
def execSBC_A_D (s : State) : Result := aluReg .sbc .d s

/-- `SBC A,E` (R86). -/
def execSBC_A_E (s : State) : Result := aluReg .sbc .e s

/-- `SBC A,H` (R86). -/
def execSBC_A_H (s : State) : Result := aluReg .sbc .h s

/-- `SBC A,L` (R86). -/
def execSBC_A_L (s : State) : Result := aluReg .sbc .l s

/-- `SBC A,(HL)` (R86). -/
def execSBC_A_mHL (s : State) : Result := aluMHL .sbc_A_mHL .sbc s

/-- `SBC A,A` (R86). -/
def execSBC_A_A (s : State) : Result := aluReg .sbc .a s

/-- `AND A,B` (R87). -/
def execAND_A_B (s : State) : Result := aluReg .and .b s

/-- `AND A,C` (R87). -/
def execAND_A_C (s : State) : Result := aluReg .and .c s

/-- `AND A,D` (R87). -/
def execAND_A_D (s : State) : Result := aluReg .and .d s

/-- `AND A,E` (R87). -/
def execAND_A_E (s : State) : Result := aluReg .and .e s

/-- `AND A,H` (R87). -/
def execAND_A_H (s : State) : Result := aluReg .and .h s

/-- `AND A,L` (R87). -/
def execAND_A_L (s : State) : Result := aluReg .and .l s

/-- `AND A,(HL)` (R87). -/
def execAND_A_mHL (s : State) : Result := aluMHL .and_A_mHL .and s

/-- `AND A,A` (R87). -/
def execAND_A_A (s : State) : Result := aluReg .and .a s

/-- `XOR A,B` (R88). -/
def execXOR_A_B (s : State) : Result := aluReg .xor .b s

/-- `XOR A,C` (R88). -/
def execXOR_A_C (s : State) : Result := aluReg .xor .c s

/-- `XOR A,D` (R88). -/
def execXOR_A_D (s : State) : Result := aluReg .xor .d s

/-- `XOR A,E` (R88). -/
def execXOR_A_E (s : State) : Result := aluReg .xor .e s

/-- `XOR A,H` (R88). -/
def execXOR_A_H (s : State) : Result := aluReg .xor .h s

/-- `XOR A,L` (R88). -/
def execXOR_A_L (s : State) : Result := aluReg .xor .l s

/-- `XOR A,(HL)` (R88). -/
def execXOR_A_mHL (s : State) : Result := aluMHL .xor_A_mHL .xor s

/-- `XOR A,A` (R88). -/
def execXOR_A_A (s : State) : Result := aluReg .xor .a s

/-- `OR A,B` (R89). -/
def execOR_A_B (s : State) : Result := aluReg .or .b s

/-- `OR A,C` (R89). -/
def execOR_A_C (s : State) : Result := aluReg .or .c s

/-- `OR A,D` (R89). -/
def execOR_A_D (s : State) : Result := aluReg .or .d s

/-- `OR A,E` (R89). -/
def execOR_A_E (s : State) : Result := aluReg .or .e s

/-- `OR A,H` (R89). -/
def execOR_A_H (s : State) : Result := aluReg .or .h s

/-- `OR A,L` (R89). -/
def execOR_A_L (s : State) : Result := aluReg .or .l s

/-- `OR A,(HL)` (R89). -/
def execOR_A_mHL (s : State) : Result := aluMHL .or_A_mHL .or s

/-- `OR A,A` (R89). -/
def execOR_A_A (s : State) : Result := aluReg .or .a s

/-- `CP A,B` (R90). -/
def execCP_A_B (s : State) : Result := aluReg .cp .b s

/-- `CP A,C` (R90). -/
def execCP_A_C (s : State) : Result := aluReg .cp .c s

/-- `CP A,D` (R90). -/
def execCP_A_D (s : State) : Result := aluReg .cp .d s

/-- `CP A,E` (R90). -/
def execCP_A_E (s : State) : Result := aluReg .cp .e s

/-- `CP A,H` (R90). -/
def execCP_A_H (s : State) : Result := aluReg .cp .h s

/-- `CP A,L` (R90). -/
def execCP_A_L (s : State) : Result := aluReg .cp .l s

/-- `CP A,(HL)` (R90). -/
def execCP_A_mHL (s : State) : Result := aluMHL .cp_A_mHL .cp s

/-- `CP A,A` (R90). -/
def execCP_A_A (s : State) : Result := aluReg .cp .a s

/-- `ADD A,n8` (R83). -/
def execADD_A_n8 (n : Byte) (s : State) : Result := aluImm .add n s

/-- `ADC A,n8` (R84). -/
def execADC_A_n8 (n : Byte) (s : State) : Result := aluImm .adc n s

/-- `SUB A,n8` (R85). -/
def execSUB_A_n8 (n : Byte) (s : State) : Result := aluImm .sub n s

/-- `SBC A,n8` (R86). -/
def execSBC_A_n8 (n : Byte) (s : State) : Result := aluImm .sbc n s

/-- `AND A,n8` (R87). -/
def execAND_A_n8 (n : Byte) (s : State) : Result := aluImm .and n s

/-- `XOR A,n8` (R88). -/
def execXOR_A_n8 (n : Byte) (s : State) : Result := aluImm .xor n s

/-- `OR A,n8` (R89). -/
def execOR_A_n8 (n : Byte) (s : State) : Result := aluImm .or n s

/-- `CP A,n8` (R90). -/
def execCP_A_n8 (n : Byte) (s : State) : Result := aluImm .cp n s

end Sys2Proof.Machine
end

