-- ==== Sys2Proof/Machine/Bitops.lean ====
section
/-! DEFINITION. Rotates, shifts and bit operations (spec/46_bitops.md R144 to R159), and the prefix byte (R167). -/

namespace Sys2Proof.Machine

/-! ## Shared operations -/

/-- A CB rotate or shift of a register (R148 to R156). -/
def rotReg (op : RotOp) (r : Reg8) (s : State) : Result := done (modifyReg (rot8 op) r s)

/-- A CB rotate or shift of the byte at (HL) (R148 to R156). -/
def rotMHL (i : Instr) (op : RotOp) (s : State) : Result := finish i s (modifyMem (rot8 op) s)

/-- `BIT b,r` (R157). -/
def testBitReg (b : Fin 8) (r : Reg8) (s : State) : Result := done (s.setFlags (bitFlags b (s.reg r) s.flags))

/-- `BIT b,(HL)` (R157): one read and no write. -/
def testBitMHL (i : Instr) (b : Fin 8) (s : State) : Result :=
  finish i s (withMHL (fun v t => t.setFlags (bitFlags b v t.flags)) s)

/-- `RES b,r` (R158). -/
def clearBitReg (b : Fin 8) (r : Reg8) (s : State) : Result := done (rewriteReg (resetBit b) r s)

/-- `RES b,(HL)` (R158). -/
def clearBitMHL (i : Instr) (b : Fin 8) (s : State) : Result := finish i s (rewriteMem (resetBit b) s)

/-- `SET b,r` (R159). -/
def raiseBitReg (b : Fin 8) (r : Reg8) (s : State) : Result := done (rewriteReg (setBit b) r s)

/-- `SET b,(HL)` (R159). -/
def raiseBitMHL (i : Instr) (b : Fin 8) (s : State) : Result := finish i s (rewriteMem (setBit b) s)

/-- The rule the CB map (R61) gives a sub-opcode, for the instruction `i` it is read with (R148, R167). -/
def cbInstruction (i : Instr) (sub : Byte) (s : State) : Result :=
  match fieldX sub, operandOf (fieldZ sub) with
  | 0, .reg r => rotReg (rotOf (fieldY sub)) r s
  | 0, .mHL => rotMHL i (rotOf (fieldY sub)) s
  | 1, .reg r => testBitReg (bitIndexOf (fieldY sub)) r s
  | 1, .mHL => testBitMHL i (bitIndexOf (fieldY sub)) s
  | 2, .reg r => clearBitReg (bitIndexOf (fieldY sub)) r s
  | 2, .mHL => clearBitMHL i (bitIndexOf (fieldY sub)) s
  | _, .reg r => raiseBitReg (bitIndexOf (fieldY sub)) r s
  | _, .mHL => raiseBitMHL i (bitIndexOf (fieldY sub)) s

/-! ## The instructions, in the order of the opcode table -/

/-- `RLCA` (R144). -/
def execRLCA (s : State) : Result := done (modifyReg (accRot8 .rlca) .a s)

/-- `RRCA` (R145). -/
def execRRCA (s : State) : Result := done (modifyReg (accRot8 .rrca) .a s)

/-- `RLA` (R146). -/
def execRLA (s : State) : Result := done (modifyReg (accRot8 .rla) .a s)

/-- `RRA` (R147). -/
def execRRA (s : State) : Result := done (modifyReg (accRot8 .rra) .a s)

/-- `PREFIX CB` (R167): the prefix byte read with its sub-opcode is the CB instruction of that sub-opcode. -/
def execPREFIX_CB (sub : Byte) (s : State) : Result := cbInstruction (.prefix_CB sub) sub s

/-- `RLC B` (R149). -/
def execRLC_B (s : State) : Result := rotReg .rlc .b s

/-- `RLC C` (R149). -/
def execRLC_C (s : State) : Result := rotReg .rlc .c s

/-- `RLC D` (R149). -/
def execRLC_D (s : State) : Result := rotReg .rlc .d s

/-- `RLC E` (R149). -/
def execRLC_E (s : State) : Result := rotReg .rlc .e s

/-- `RLC H` (R149). -/
def execRLC_H (s : State) : Result := rotReg .rlc .h s

/-- `RLC L` (R149). -/
def execRLC_L (s : State) : Result := rotReg .rlc .l s

/-- `RLC (HL)` (R149). -/
def execRLC_mHL (s : State) : Result := rotMHL .rlc_mHL .rlc s

/-- `RLC A` (R149). -/
def execRLC_A (s : State) : Result := rotReg .rlc .a s

/-- `RRC B` (R150). -/
def execRRC_B (s : State) : Result := rotReg .rrc .b s

/-- `RRC C` (R150). -/
def execRRC_C (s : State) : Result := rotReg .rrc .c s

/-- `RRC D` (R150). -/
def execRRC_D (s : State) : Result := rotReg .rrc .d s

/-- `RRC E` (R150). -/
def execRRC_E (s : State) : Result := rotReg .rrc .e s

/-- `RRC H` (R150). -/
def execRRC_H (s : State) : Result := rotReg .rrc .h s

/-- `RRC L` (R150). -/
def execRRC_L (s : State) : Result := rotReg .rrc .l s

/-- `RRC (HL)` (R150). -/
def execRRC_mHL (s : State) : Result := rotMHL .rrc_mHL .rrc s

/-- `RRC A` (R150). -/
def execRRC_A (s : State) : Result := rotReg .rrc .a s

/-- `RL B` (R151). -/
def execRL_B (s : State) : Result := rotReg .rl .b s

/-- `RL C` (R151). -/
def execRL_C (s : State) : Result := rotReg .rl .c s

/-- `RL D` (R151). -/
def execRL_D (s : State) : Result := rotReg .rl .d s

/-- `RL E` (R151). -/
def execRL_E (s : State) : Result := rotReg .rl .e s

/-- `RL H` (R151). -/
def execRL_H (s : State) : Result := rotReg .rl .h s

/-- `RL L` (R151). -/
def execRL_L (s : State) : Result := rotReg .rl .l s

/-- `RL (HL)` (R151). -/
def execRL_mHL (s : State) : Result := rotMHL .rl_mHL .rl s

/-- `RL A` (R151). -/
def execRL_A (s : State) : Result := rotReg .rl .a s

/-- `RR B` (R152). -/
def execRR_B (s : State) : Result := rotReg .rr .b s

/-- `RR C` (R152). -/
def execRR_C (s : State) : Result := rotReg .rr .c s

/-- `RR D` (R152). -/
def execRR_D (s : State) : Result := rotReg .rr .d s

/-- `RR E` (R152). -/
def execRR_E (s : State) : Result := rotReg .rr .e s

/-- `RR H` (R152). -/
def execRR_H (s : State) : Result := rotReg .rr .h s

/-- `RR L` (R152). -/
def execRR_L (s : State) : Result := rotReg .rr .l s

/-- `RR (HL)` (R152). -/
def execRR_mHL (s : State) : Result := rotMHL .rr_mHL .rr s

/-- `RR A` (R152). -/
def execRR_A (s : State) : Result := rotReg .rr .a s

/-- `SLA B` (R153). -/
def execSLA_B (s : State) : Result := rotReg .sla .b s

/-- `SLA C` (R153). -/
def execSLA_C (s : State) : Result := rotReg .sla .c s

/-- `SLA D` (R153). -/
def execSLA_D (s : State) : Result := rotReg .sla .d s

/-- `SLA E` (R153). -/
def execSLA_E (s : State) : Result := rotReg .sla .e s

/-- `SLA H` (R153). -/
def execSLA_H (s : State) : Result := rotReg .sla .h s

/-- `SLA L` (R153). -/
def execSLA_L (s : State) : Result := rotReg .sla .l s

/-- `SLA (HL)` (R153). -/
def execSLA_mHL (s : State) : Result := rotMHL .sla_mHL .sla s

/-- `SLA A` (R153). -/
def execSLA_A (s : State) : Result := rotReg .sla .a s

/-- `SRA B` (R154). -/
def execSRA_B (s : State) : Result := rotReg .sra .b s

/-- `SRA C` (R154). -/
def execSRA_C (s : State) : Result := rotReg .sra .c s

/-- `SRA D` (R154). -/
def execSRA_D (s : State) : Result := rotReg .sra .d s

/-- `SRA E` (R154). -/
def execSRA_E (s : State) : Result := rotReg .sra .e s

/-- `SRA H` (R154). -/
def execSRA_H (s : State) : Result := rotReg .sra .h s

/-- `SRA L` (R154). -/
def execSRA_L (s : State) : Result := rotReg .sra .l s

/-- `SRA (HL)` (R154). -/
def execSRA_mHL (s : State) : Result := rotMHL .sra_mHL .sra s

/-- `SRA A` (R154). -/
def execSRA_A (s : State) : Result := rotReg .sra .a s

/-- `SWAP B` (R155). -/
def execSWAP_B (s : State) : Result := rotReg .swap .b s

/-- `SWAP C` (R155). -/
def execSWAP_C (s : State) : Result := rotReg .swap .c s

/-- `SWAP D` (R155). -/
def execSWAP_D (s : State) : Result := rotReg .swap .d s

/-- `SWAP E` (R155). -/
def execSWAP_E (s : State) : Result := rotReg .swap .e s

/-- `SWAP H` (R155). -/
def execSWAP_H (s : State) : Result := rotReg .swap .h s

/-- `SWAP L` (R155). -/
def execSWAP_L (s : State) : Result := rotReg .swap .l s

/-- `SWAP (HL)` (R155). -/
def execSWAP_mHL (s : State) : Result := rotMHL .swap_mHL .swap s

/-- `SWAP A` (R155). -/
def execSWAP_A (s : State) : Result := rotReg .swap .a s

/-- `SRL B` (R156). -/
def execSRL_B (s : State) : Result := rotReg .srl .b s

/-- `SRL C` (R156). -/
def execSRL_C (s : State) : Result := rotReg .srl .c s

/-- `SRL D` (R156). -/
def execSRL_D (s : State) : Result := rotReg .srl .d s

/-- `SRL E` (R156). -/
def execSRL_E (s : State) : Result := rotReg .srl .e s

/-- `SRL H` (R156). -/
def execSRL_H (s : State) : Result := rotReg .srl .h s

/-- `SRL L` (R156). -/
def execSRL_L (s : State) : Result := rotReg .srl .l s

/-- `SRL (HL)` (R156). -/
def execSRL_mHL (s : State) : Result := rotMHL .srl_mHL .srl s

/-- `SRL A` (R156). -/
def execSRL_A (s : State) : Result := rotReg .srl .a s

/-- `BIT 0,B` (R157). -/
def execBIT_0_B (s : State) : Result := testBitReg 0 .b s

/-- `BIT 0,C` (R157). -/
def execBIT_0_C (s : State) : Result := testBitReg 0 .c s

/-- `BIT 0,D` (R157). -/
def execBIT_0_D (s : State) : Result := testBitReg 0 .d s

/-- `BIT 0,E` (R157). -/
def execBIT_0_E (s : State) : Result := testBitReg 0 .e s

/-- `BIT 0,H` (R157). -/
def execBIT_0_H (s : State) : Result := testBitReg 0 .h s

/-- `BIT 0,L` (R157). -/
def execBIT_0_L (s : State) : Result := testBitReg 0 .l s

/-- `BIT 0,(HL)` (R157). -/
def execBIT_0_mHL (s : State) : Result := testBitMHL .bit_0_mHL 0 s

/-- `BIT 0,A` (R157). -/
def execBIT_0_A (s : State) : Result := testBitReg 0 .a s

/-- `BIT 1,B` (R157). -/
def execBIT_1_B (s : State) : Result := testBitReg 1 .b s

/-- `BIT 1,C` (R157). -/
def execBIT_1_C (s : State) : Result := testBitReg 1 .c s

/-- `BIT 1,D` (R157). -/
def execBIT_1_D (s : State) : Result := testBitReg 1 .d s

/-- `BIT 1,E` (R157). -/
def execBIT_1_E (s : State) : Result := testBitReg 1 .e s

/-- `BIT 1,H` (R157). -/
def execBIT_1_H (s : State) : Result := testBitReg 1 .h s

/-- `BIT 1,L` (R157). -/
def execBIT_1_L (s : State) : Result := testBitReg 1 .l s

/-- `BIT 1,(HL)` (R157). -/
def execBIT_1_mHL (s : State) : Result := testBitMHL .bit_1_mHL 1 s

/-- `BIT 1,A` (R157). -/
def execBIT_1_A (s : State) : Result := testBitReg 1 .a s

/-- `BIT 2,B` (R157). -/
def execBIT_2_B (s : State) : Result := testBitReg 2 .b s

/-- `BIT 2,C` (R157). -/
def execBIT_2_C (s : State) : Result := testBitReg 2 .c s

/-- `BIT 2,D` (R157). -/
def execBIT_2_D (s : State) : Result := testBitReg 2 .d s

/-- `BIT 2,E` (R157). -/
def execBIT_2_E (s : State) : Result := testBitReg 2 .e s

/-- `BIT 2,H` (R157). -/
def execBIT_2_H (s : State) : Result := testBitReg 2 .h s

/-- `BIT 2,L` (R157). -/
def execBIT_2_L (s : State) : Result := testBitReg 2 .l s

/-- `BIT 2,(HL)` (R157). -/
def execBIT_2_mHL (s : State) : Result := testBitMHL .bit_2_mHL 2 s

/-- `BIT 2,A` (R157). -/
def execBIT_2_A (s : State) : Result := testBitReg 2 .a s

/-- `BIT 3,B` (R157). -/
def execBIT_3_B (s : State) : Result := testBitReg 3 .b s

/-- `BIT 3,C` (R157). -/
def execBIT_3_C (s : State) : Result := testBitReg 3 .c s

/-- `BIT 3,D` (R157). -/
def execBIT_3_D (s : State) : Result := testBitReg 3 .d s

/-- `BIT 3,E` (R157). -/
def execBIT_3_E (s : State) : Result := testBitReg 3 .e s

/-- `BIT 3,H` (R157). -/
def execBIT_3_H (s : State) : Result := testBitReg 3 .h s

/-- `BIT 3,L` (R157). -/
def execBIT_3_L (s : State) : Result := testBitReg 3 .l s

/-- `BIT 3,(HL)` (R157). -/
def execBIT_3_mHL (s : State) : Result := testBitMHL .bit_3_mHL 3 s

/-- `BIT 3,A` (R157). -/
def execBIT_3_A (s : State) : Result := testBitReg 3 .a s

/-- `BIT 4,B` (R157). -/
def execBIT_4_B (s : State) : Result := testBitReg 4 .b s

/-- `BIT 4,C` (R157). -/
def execBIT_4_C (s : State) : Result := testBitReg 4 .c s

/-- `BIT 4,D` (R157). -/
def execBIT_4_D (s : State) : Result := testBitReg 4 .d s

/-- `BIT 4,E` (R157). -/
def execBIT_4_E (s : State) : Result := testBitReg 4 .e s

/-- `BIT 4,H` (R157). -/
def execBIT_4_H (s : State) : Result := testBitReg 4 .h s

/-- `BIT 4,L` (R157). -/
def execBIT_4_L (s : State) : Result := testBitReg 4 .l s

/-- `BIT 4,(HL)` (R157). -/
def execBIT_4_mHL (s : State) : Result := testBitMHL .bit_4_mHL 4 s

/-- `BIT 4,A` (R157). -/
def execBIT_4_A (s : State) : Result := testBitReg 4 .a s

/-- `BIT 5,B` (R157). -/
def execBIT_5_B (s : State) : Result := testBitReg 5 .b s

/-- `BIT 5,C` (R157). -/
def execBIT_5_C (s : State) : Result := testBitReg 5 .c s

/-- `BIT 5,D` (R157). -/
def execBIT_5_D (s : State) : Result := testBitReg 5 .d s

/-- `BIT 5,E` (R157). -/
def execBIT_5_E (s : State) : Result := testBitReg 5 .e s

/-- `BIT 5,H` (R157). -/
def execBIT_5_H (s : State) : Result := testBitReg 5 .h s

/-- `BIT 5,L` (R157). -/
def execBIT_5_L (s : State) : Result := testBitReg 5 .l s

/-- `BIT 5,(HL)` (R157). -/
def execBIT_5_mHL (s : State) : Result := testBitMHL .bit_5_mHL 5 s

/-- `BIT 5,A` (R157). -/
def execBIT_5_A (s : State) : Result := testBitReg 5 .a s

/-- `BIT 6,B` (R157). -/
def execBIT_6_B (s : State) : Result := testBitReg 6 .b s

/-- `BIT 6,C` (R157). -/
def execBIT_6_C (s : State) : Result := testBitReg 6 .c s

/-- `BIT 6,D` (R157). -/
def execBIT_6_D (s : State) : Result := testBitReg 6 .d s

/-- `BIT 6,E` (R157). -/
def execBIT_6_E (s : State) : Result := testBitReg 6 .e s

/-- `BIT 6,H` (R157). -/
def execBIT_6_H (s : State) : Result := testBitReg 6 .h s

/-- `BIT 6,L` (R157). -/
def execBIT_6_L (s : State) : Result := testBitReg 6 .l s

/-- `BIT 6,(HL)` (R157). -/
def execBIT_6_mHL (s : State) : Result := testBitMHL .bit_6_mHL 6 s

/-- `BIT 6,A` (R157). -/
def execBIT_6_A (s : State) : Result := testBitReg 6 .a s

/-- `BIT 7,B` (R157). -/
def execBIT_7_B (s : State) : Result := testBitReg 7 .b s

/-- `BIT 7,C` (R157). -/
def execBIT_7_C (s : State) : Result := testBitReg 7 .c s

/-- `BIT 7,D` (R157). -/
def execBIT_7_D (s : State) : Result := testBitReg 7 .d s

/-- `BIT 7,E` (R157). -/
def execBIT_7_E (s : State) : Result := testBitReg 7 .e s

/-- `BIT 7,H` (R157). -/
def execBIT_7_H (s : State) : Result := testBitReg 7 .h s

/-- `BIT 7,L` (R157). -/
def execBIT_7_L (s : State) : Result := testBitReg 7 .l s

/-- `BIT 7,(HL)` (R157). -/
def execBIT_7_mHL (s : State) : Result := testBitMHL .bit_7_mHL 7 s

/-- `BIT 7,A` (R157). -/
def execBIT_7_A (s : State) : Result := testBitReg 7 .a s

/-- `RES 0,B` (R158). -/
def execRES_0_B (s : State) : Result := clearBitReg 0 .b s

/-- `RES 0,C` (R158). -/
def execRES_0_C (s : State) : Result := clearBitReg 0 .c s

/-- `RES 0,D` (R158). -/
def execRES_0_D (s : State) : Result := clearBitReg 0 .d s

/-- `RES 0,E` (R158). -/
def execRES_0_E (s : State) : Result := clearBitReg 0 .e s

/-- `RES 0,H` (R158). -/
def execRES_0_H (s : State) : Result := clearBitReg 0 .h s

/-- `RES 0,L` (R158). -/
def execRES_0_L (s : State) : Result := clearBitReg 0 .l s

/-- `RES 0,(HL)` (R158). -/
def execRES_0_mHL (s : State) : Result := clearBitMHL .res_0_mHL 0 s

/-- `RES 0,A` (R158). -/
def execRES_0_A (s : State) : Result := clearBitReg 0 .a s

/-- `RES 1,B` (R158). -/
def execRES_1_B (s : State) : Result := clearBitReg 1 .b s

/-- `RES 1,C` (R158). -/
def execRES_1_C (s : State) : Result := clearBitReg 1 .c s

/-- `RES 1,D` (R158). -/
def execRES_1_D (s : State) : Result := clearBitReg 1 .d s

/-- `RES 1,E` (R158). -/
def execRES_1_E (s : State) : Result := clearBitReg 1 .e s

/-- `RES 1,H` (R158). -/
def execRES_1_H (s : State) : Result := clearBitReg 1 .h s

/-- `RES 1,L` (R158). -/
def execRES_1_L (s : State) : Result := clearBitReg 1 .l s

/-- `RES 1,(HL)` (R158). -/
def execRES_1_mHL (s : State) : Result := clearBitMHL .res_1_mHL 1 s

/-- `RES 1,A` (R158). -/
def execRES_1_A (s : State) : Result := clearBitReg 1 .a s

/-- `RES 2,B` (R158). -/
def execRES_2_B (s : State) : Result := clearBitReg 2 .b s

/-- `RES 2,C` (R158). -/
def execRES_2_C (s : State) : Result := clearBitReg 2 .c s

/-- `RES 2,D` (R158). -/
def execRES_2_D (s : State) : Result := clearBitReg 2 .d s

/-- `RES 2,E` (R158). -/
def execRES_2_E (s : State) : Result := clearBitReg 2 .e s

/-- `RES 2,H` (R158). -/
def execRES_2_H (s : State) : Result := clearBitReg 2 .h s

/-- `RES 2,L` (R158). -/
def execRES_2_L (s : State) : Result := clearBitReg 2 .l s

/-- `RES 2,(HL)` (R158). -/
def execRES_2_mHL (s : State) : Result := clearBitMHL .res_2_mHL 2 s

/-- `RES 2,A` (R158). -/
def execRES_2_A (s : State) : Result := clearBitReg 2 .a s

/-- `RES 3,B` (R158). -/
def execRES_3_B (s : State) : Result := clearBitReg 3 .b s

/-- `RES 3,C` (R158). -/
def execRES_3_C (s : State) : Result := clearBitReg 3 .c s

/-- `RES 3,D` (R158). -/
def execRES_3_D (s : State) : Result := clearBitReg 3 .d s

/-- `RES 3,E` (R158). -/
def execRES_3_E (s : State) : Result := clearBitReg 3 .e s

/-- `RES 3,H` (R158). -/
def execRES_3_H (s : State) : Result := clearBitReg 3 .h s

/-- `RES 3,L` (R158). -/
def execRES_3_L (s : State) : Result := clearBitReg 3 .l s

/-- `RES 3,(HL)` (R158). -/
def execRES_3_mHL (s : State) : Result := clearBitMHL .res_3_mHL 3 s

/-- `RES 3,A` (R158). -/
def execRES_3_A (s : State) : Result := clearBitReg 3 .a s

/-- `RES 4,B` (R158). -/
def execRES_4_B (s : State) : Result := clearBitReg 4 .b s

/-- `RES 4,C` (R158). -/
def execRES_4_C (s : State) : Result := clearBitReg 4 .c s

/-- `RES 4,D` (R158). -/
def execRES_4_D (s : State) : Result := clearBitReg 4 .d s

/-- `RES 4,E` (R158). -/
def execRES_4_E (s : State) : Result := clearBitReg 4 .e s

/-- `RES 4,H` (R158). -/
def execRES_4_H (s : State) : Result := clearBitReg 4 .h s

/-- `RES 4,L` (R158). -/
def execRES_4_L (s : State) : Result := clearBitReg 4 .l s

/-- `RES 4,(HL)` (R158). -/
def execRES_4_mHL (s : State) : Result := clearBitMHL .res_4_mHL 4 s

/-- `RES 4,A` (R158). -/
def execRES_4_A (s : State) : Result := clearBitReg 4 .a s

/-- `RES 5,B` (R158). -/
def execRES_5_B (s : State) : Result := clearBitReg 5 .b s

/-- `RES 5,C` (R158). -/
def execRES_5_C (s : State) : Result := clearBitReg 5 .c s

/-- `RES 5,D` (R158). -/
def execRES_5_D (s : State) : Result := clearBitReg 5 .d s

/-- `RES 5,E` (R158). -/
def execRES_5_E (s : State) : Result := clearBitReg 5 .e s

/-- `RES 5,H` (R158). -/
def execRES_5_H (s : State) : Result := clearBitReg 5 .h s

/-- `RES 5,L` (R158). -/
def execRES_5_L (s : State) : Result := clearBitReg 5 .l s

/-- `RES 5,(HL)` (R158). -/
def execRES_5_mHL (s : State) : Result := clearBitMHL .res_5_mHL 5 s

/-- `RES 5,A` (R158). -/
def execRES_5_A (s : State) : Result := clearBitReg 5 .a s

/-- `RES 6,B` (R158). -/
def execRES_6_B (s : State) : Result := clearBitReg 6 .b s

/-- `RES 6,C` (R158). -/
def execRES_6_C (s : State) : Result := clearBitReg 6 .c s

/-- `RES 6,D` (R158). -/
def execRES_6_D (s : State) : Result := clearBitReg 6 .d s

/-- `RES 6,E` (R158). -/
def execRES_6_E (s : State) : Result := clearBitReg 6 .e s

/-- `RES 6,H` (R158). -/
def execRES_6_H (s : State) : Result := clearBitReg 6 .h s

/-- `RES 6,L` (R158). -/
def execRES_6_L (s : State) : Result := clearBitReg 6 .l s

/-- `RES 6,(HL)` (R158). -/
def execRES_6_mHL (s : State) : Result := clearBitMHL .res_6_mHL 6 s

/-- `RES 6,A` (R158). -/
def execRES_6_A (s : State) : Result := clearBitReg 6 .a s

/-- `RES 7,B` (R158). -/
def execRES_7_B (s : State) : Result := clearBitReg 7 .b s

/-- `RES 7,C` (R158). -/
def execRES_7_C (s : State) : Result := clearBitReg 7 .c s

/-- `RES 7,D` (R158). -/
def execRES_7_D (s : State) : Result := clearBitReg 7 .d s

/-- `RES 7,E` (R158). -/
def execRES_7_E (s : State) : Result := clearBitReg 7 .e s

/-- `RES 7,H` (R158). -/
def execRES_7_H (s : State) : Result := clearBitReg 7 .h s

/-- `RES 7,L` (R158). -/
def execRES_7_L (s : State) : Result := clearBitReg 7 .l s

/-- `RES 7,(HL)` (R158). -/
def execRES_7_mHL (s : State) : Result := clearBitMHL .res_7_mHL 7 s

/-- `RES 7,A` (R158). -/
def execRES_7_A (s : State) : Result := clearBitReg 7 .a s

/-- `SET 0,B` (R159). -/
def execSET_0_B (s : State) : Result := raiseBitReg 0 .b s

/-- `SET 0,C` (R159). -/
def execSET_0_C (s : State) : Result := raiseBitReg 0 .c s

/-- `SET 0,D` (R159). -/
def execSET_0_D (s : State) : Result := raiseBitReg 0 .d s

/-- `SET 0,E` (R159). -/
def execSET_0_E (s : State) : Result := raiseBitReg 0 .e s

/-- `SET 0,H` (R159). -/
def execSET_0_H (s : State) : Result := raiseBitReg 0 .h s

/-- `SET 0,L` (R159). -/
def execSET_0_L (s : State) : Result := raiseBitReg 0 .l s

/-- `SET 0,(HL)` (R159). -/
def execSET_0_mHL (s : State) : Result := raiseBitMHL .set_0_mHL 0 s

/-- `SET 0,A` (R159). -/
def execSET_0_A (s : State) : Result := raiseBitReg 0 .a s

/-- `SET 1,B` (R159). -/
def execSET_1_B (s : State) : Result := raiseBitReg 1 .b s

/-- `SET 1,C` (R159). -/
def execSET_1_C (s : State) : Result := raiseBitReg 1 .c s

/-- `SET 1,D` (R159). -/
def execSET_1_D (s : State) : Result := raiseBitReg 1 .d s

/-- `SET 1,E` (R159). -/
def execSET_1_E (s : State) : Result := raiseBitReg 1 .e s

/-- `SET 1,H` (R159). -/
def execSET_1_H (s : State) : Result := raiseBitReg 1 .h s

/-- `SET 1,L` (R159). -/
def execSET_1_L (s : State) : Result := raiseBitReg 1 .l s

/-- `SET 1,(HL)` (R159). -/
def execSET_1_mHL (s : State) : Result := raiseBitMHL .set_1_mHL 1 s

/-- `SET 1,A` (R159). -/
def execSET_1_A (s : State) : Result := raiseBitReg 1 .a s

/-- `SET 2,B` (R159). -/
def execSET_2_B (s : State) : Result := raiseBitReg 2 .b s

/-- `SET 2,C` (R159). -/
def execSET_2_C (s : State) : Result := raiseBitReg 2 .c s

/-- `SET 2,D` (R159). -/
def execSET_2_D (s : State) : Result := raiseBitReg 2 .d s

/-- `SET 2,E` (R159). -/
def execSET_2_E (s : State) : Result := raiseBitReg 2 .e s

/-- `SET 2,H` (R159). -/
def execSET_2_H (s : State) : Result := raiseBitReg 2 .h s

/-- `SET 2,L` (R159). -/
def execSET_2_L (s : State) : Result := raiseBitReg 2 .l s

/-- `SET 2,(HL)` (R159). -/
def execSET_2_mHL (s : State) : Result := raiseBitMHL .set_2_mHL 2 s

/-- `SET 2,A` (R159). -/
def execSET_2_A (s : State) : Result := raiseBitReg 2 .a s

/-- `SET 3,B` (R159). -/
def execSET_3_B (s : State) : Result := raiseBitReg 3 .b s

/-- `SET 3,C` (R159). -/
def execSET_3_C (s : State) : Result := raiseBitReg 3 .c s

/-- `SET 3,D` (R159). -/
def execSET_3_D (s : State) : Result := raiseBitReg 3 .d s

/-- `SET 3,E` (R159). -/
def execSET_3_E (s : State) : Result := raiseBitReg 3 .e s

/-- `SET 3,H` (R159). -/
def execSET_3_H (s : State) : Result := raiseBitReg 3 .h s

/-- `SET 3,L` (R159). -/
def execSET_3_L (s : State) : Result := raiseBitReg 3 .l s

/-- `SET 3,(HL)` (R159). -/
def execSET_3_mHL (s : State) : Result := raiseBitMHL .set_3_mHL 3 s

/-- `SET 3,A` (R159). -/
def execSET_3_A (s : State) : Result := raiseBitReg 3 .a s

/-- `SET 4,B` (R159). -/
def execSET_4_B (s : State) : Result := raiseBitReg 4 .b s

/-- `SET 4,C` (R159). -/
def execSET_4_C (s : State) : Result := raiseBitReg 4 .c s

/-- `SET 4,D` (R159). -/
def execSET_4_D (s : State) : Result := raiseBitReg 4 .d s

/-- `SET 4,E` (R159). -/
def execSET_4_E (s : State) : Result := raiseBitReg 4 .e s

/-- `SET 4,H` (R159). -/
def execSET_4_H (s : State) : Result := raiseBitReg 4 .h s

/-- `SET 4,L` (R159). -/
def execSET_4_L (s : State) : Result := raiseBitReg 4 .l s

/-- `SET 4,(HL)` (R159). -/
def execSET_4_mHL (s : State) : Result := raiseBitMHL .set_4_mHL 4 s

/-- `SET 4,A` (R159). -/
def execSET_4_A (s : State) : Result := raiseBitReg 4 .a s

/-- `SET 5,B` (R159). -/
def execSET_5_B (s : State) : Result := raiseBitReg 5 .b s

/-- `SET 5,C` (R159). -/
def execSET_5_C (s : State) : Result := raiseBitReg 5 .c s

/-- `SET 5,D` (R159). -/
def execSET_5_D (s : State) : Result := raiseBitReg 5 .d s

/-- `SET 5,E` (R159). -/
def execSET_5_E (s : State) : Result := raiseBitReg 5 .e s

/-- `SET 5,H` (R159). -/
def execSET_5_H (s : State) : Result := raiseBitReg 5 .h s

/-- `SET 5,L` (R159). -/
def execSET_5_L (s : State) : Result := raiseBitReg 5 .l s

/-- `SET 5,(HL)` (R159). -/
def execSET_5_mHL (s : State) : Result := raiseBitMHL .set_5_mHL 5 s

/-- `SET 5,A` (R159). -/
def execSET_5_A (s : State) : Result := raiseBitReg 5 .a s

/-- `SET 6,B` (R159). -/
def execSET_6_B (s : State) : Result := raiseBitReg 6 .b s

/-- `SET 6,C` (R159). -/
def execSET_6_C (s : State) : Result := raiseBitReg 6 .c s

/-- `SET 6,D` (R159). -/
def execSET_6_D (s : State) : Result := raiseBitReg 6 .d s

/-- `SET 6,E` (R159). -/
def execSET_6_E (s : State) : Result := raiseBitReg 6 .e s

/-- `SET 6,H` (R159). -/
def execSET_6_H (s : State) : Result := raiseBitReg 6 .h s

/-- `SET 6,L` (R159). -/
def execSET_6_L (s : State) : Result := raiseBitReg 6 .l s

/-- `SET 6,(HL)` (R159). -/
def execSET_6_mHL (s : State) : Result := raiseBitMHL .set_6_mHL 6 s

/-- `SET 6,A` (R159). -/
def execSET_6_A (s : State) : Result := raiseBitReg 6 .a s

/-- `SET 7,B` (R159). -/
def execSET_7_B (s : State) : Result := raiseBitReg 7 .b s

/-- `SET 7,C` (R159). -/
def execSET_7_C (s : State) : Result := raiseBitReg 7 .c s

/-- `SET 7,D` (R159). -/
def execSET_7_D (s : State) : Result := raiseBitReg 7 .d s

/-- `SET 7,E` (R159). -/
def execSET_7_E (s : State) : Result := raiseBitReg 7 .e s

/-- `SET 7,H` (R159). -/
def execSET_7_H (s : State) : Result := raiseBitReg 7 .h s

/-- `SET 7,L` (R159). -/
def execSET_7_L (s : State) : Result := raiseBitReg 7 .l s

/-- `SET 7,(HL)` (R159). -/
def execSET_7_mHL (s : State) : Result := raiseBitMHL .set_7_mHL 7 s

/-- `SET 7,A` (R159). -/
def execSET_7_A (s : State) : Result := raiseBitReg 7 .a s

end Sys2Proof.Machine
end

