-- ==== Sys2Proof/Machine/Control.lean ====
section
/-! DEFINITION. Control transfer (spec/45_control.md R132 to R143). When one of these runs, PC is already past the
instruction (R74), so a transfer that does not happen leaves it there. -/

namespace Sys2Proof.Machine

/-! ## Shared operations -/

/-- `pc <- target` (R133, R135, R136). -/
def jumpTo (target : Addr) (s : State) : Result := done (s.setPc target)

/-- `if cond(cc): pc <- target` (R134, R137). -/
def jumpIf (cc : Cond) (target : Addr) (s : State) : Result := done (if s.cond cc then s.setPc target else s)

/-- `Push16(pc); pc <- target` (R138, R142). -/
def callBus (target : Addr) (s : State) : Bus Unit := (push16 s.pc s).andThen fun _ t => .ok () (t.setPc target)

/-- `if cond(cc): Push16(pc); pc <- target` (R139): not taken, no bus access is made. -/
def callIf (i : Instr) (cc : Cond) (target : Addr) (s : State) : Result :=
  finish i s (if s.cond cc then callBus target s else .ok () s)

/-- `pc <- Pop16()` (R140). -/
def returnBus (s : State) : Bus Unit := (pop16 s).andThen fun v t => .ok () (t.setPc v)

/-- `if cond(cc): pc <- Pop16()` (R141): not taken, no bus access is made. -/
def returnIf (i : Instr) (cc : Cond) (s : State) : Result :=
  finish i s (if s.cond cc then returnBus s else .ok () s)

/-! ## The instructions, in the order of the opcode table -/

/-- `JR e8` (R136). -/
def execJR_e8 (e : Byte) (s : State) : Result := jumpTo (s.pc + signExtend8 e) s

/-- `JR NZ,e8` (R137). -/
def execJR_NZ_e8 (e : Byte) (s : State) : Result := jumpIf .nz (s.pc + signExtend8 e) s

/-- `JR Z,e8` (R137). -/
def execJR_Z_e8 (e : Byte) (s : State) : Result := jumpIf .z (s.pc + signExtend8 e) s

/-- `JR NC,e8` (R137). -/
def execJR_NC_e8 (e : Byte) (s : State) : Result := jumpIf .nc (s.pc + signExtend8 e) s

/-- `JR C,e8` (R137). -/
def execJR_C_e8 (e : Byte) (s : State) : Result := jumpIf .c (s.pc + signExtend8 e) s

/-- `RET NZ` (R141). -/
def execRET_NZ (s : State) : Result := returnIf .ret_NZ .nz s

/-- `JP NZ,a16` (R134). -/
def execJP_NZ_a16 (a : Addr) (s : State) : Result := jumpIf .nz a s

/-- `JP a16` (R133). -/
def execJP_a16 (a : Addr) (s : State) : Result := jumpTo a s

/-- `CALL NZ,a16` (R139). -/
def execCALL_NZ_a16 (a : Addr) (s : State) : Result := callIf (.call_NZ_a16 a) .nz a s

/-- `RST $00` (R142). -/
def execRST_00 (s : State) : Result := finish .rst_00 s (callBus 0x0000 s)

/-- `RET Z` (R141). -/
def execRET_Z (s : State) : Result := returnIf .ret_Z .z s

/-- `RET` (R140). -/
def execRET (s : State) : Result := finish .ret s (returnBus s)

/-- `JP Z,a16` (R134). -/
def execJP_Z_a16 (a : Addr) (s : State) : Result := jumpIf .z a s

/-- `CALL Z,a16` (R139). -/
def execCALL_Z_a16 (a : Addr) (s : State) : Result := callIf (.call_Z_a16 a) .z a s

/-- `CALL a16` (R138). -/
def execCALL_a16 (a : Addr) (s : State) : Result := finish (.call_a16 a) s (callBus a s)

/-- `RST $08` (R142). -/
def execRST_08 (s : State) : Result := finish .rst_08 s (callBus 0x0008 s)

/-- `RET NC` (R141). -/
def execRET_NC (s : State) : Result := returnIf .ret_NC .nc s

/-- `JP NC,a16` (R134). -/
def execJP_NC_a16 (a : Addr) (s : State) : Result := jumpIf .nc a s

/-- `CALL NC,a16` (R139). -/
def execCALL_NC_a16 (a : Addr) (s : State) : Result := callIf (.call_NC_a16 a) .nc a s

/-- `RST $10` (R142). -/
def execRST_10 (s : State) : Result := finish .rst_10 s (callBus 0x0010 s)

/-- `RET C` (R141). -/
def execRET_C (s : State) : Result := returnIf .ret_C .c s

/-- `JP C,a16` (R134). -/
def execJP_C_a16 (a : Addr) (s : State) : Result := jumpIf .c a s

/-- `CALL C,a16` (R139). -/
def execCALL_C_a16 (a : Addr) (s : State) : Result := callIf (.call_C_a16 a) .c a s

/-- `RST $18` (R142). -/
def execRST_18 (s : State) : Result := finish .rst_18 s (callBus 0x0018 s)

/-- `RST $20` (R142). -/
def execRST_20 (s : State) : Result := finish .rst_20 s (callBus 0x0020 s)

/-- `JP HL` (R135). -/
def execJP_HL (s : State) : Result := jumpTo s.hl s

/-- `RST $28` (R142). -/
def execRST_28 (s : State) : Result := finish .rst_28 s (callBus 0x0028 s)

/-- `RST $30` (R142). -/
def execRST_30 (s : State) : Result := finish .rst_30 s (callBus 0x0030 s)

/-- `RST $38` (R142). -/
def execRST_38 (s : State) : Result := finish .rst_38 s (callBus 0x0038 s)

end Sys2Proof.Machine
end

