-- ==== Sys2Proof/Machine/Loads.lean ====
section
/-! DEFINITION. Loads, stores and register moves (spec/43_loads.md R105 to R126). No load changes a flag. -/

namespace Sys2Proof.Machine

/-! ## Shared operations -/

/-- `x[r] <- x[r']` (R105). -/
def loadRegReg (dst src : Reg8) (s : State) : Result := done (s.setReg dst (s.reg src))

/-- `x[r] <- imm8` (R106). -/
def loadRegImm (dst : Reg8) (n : Byte) (s : State) : Result := done (s.setReg dst n)

/-- `x[r] <- MemRead(pair(HL), 1)` (R107). -/
def loadRegMHL (i : Instr) (dst : Reg8) (s : State) : Result := finish i s (withMHL (fun v t => t.setReg dst v) s)

/-- `MemWrite(pair(HL), 1, x[r])` (R108). -/
def storeMHLReg (i : Instr) (src : Reg8) (s : State) : Result := finish i s (busWrite s.hl (s.reg src) s)

/-- `MemWrite(pair(HL), 1, imm8)` (R109). -/
def storeMHLImm (i : Instr) (n : Byte) (s : State) : Result := finish i s (busWrite s.hl n s)

/-- A from the byte at a pair; (HL+) and (HL-) then step HL (R110, R111, R116, R117). -/
def loadAccInd (i : Instr) (p : Indirect) (s : State) : Result :=
  finish i s ((busRead (s.indirectAddr p) s).andThen fun v t => .ok () ((t.setReg .a v).stepIndirect p (s.indirectAddr p)))

/-- A to the byte at a pair; (HL+) and (HL-) then step HL (R112 to R115). -/
def storeIndAcc (i : Instr) (p : Indirect) (s : State) : Result :=
  finish i s ((busWrite (s.indirectAddr p) s.regs.a s).andThen fun _ t => .ok () (t.stepIndirect p (s.indirectAddr p)))

/-- A from the byte at an address (R119, R121, R123). -/
def loadAccAt (i : Instr) (a : Addr) (s : State) : Result :=
  finish i s ((busRead a s).andThen fun v t => .ok () (t.setReg .a v))

/-- A to the byte at an address (R118, R120, R122). -/
def storeAccAt (i : Instr) (a : Addr) (s : State) : Result := finish i s (busWrite a s.regs.a s)

/-- `rr <- imm16` (R124). -/
def loadWideImm (p : Wide) (n : Addr) (s : State) : Result := done (s.setWide p n)

/-- SP to two bytes, the low byte first (R125). -/
def storeSpAt (i : Instr) (a : Addr) (s : State) : Result := finish i s (busWrite16 a s.sp s)

/-! ## The instructions, in the order of the opcode table -/

/-- `LD BC,n16` (R124). -/
def execLD_BC_n16 (n : Addr) (s : State) : Result := loadWideImm .bc n s

/-- `LD (BC),A` (R112). -/
def execLD_mBC_A (s : State) : Result := storeIndAcc .ld_mBC_A .bc s

/-- `LD B,n8` (R106). -/
def execLD_B_n8 (n : Byte) (s : State) : Result := loadRegImm .b n s

/-- `LD (a16),SP` (R125). -/
def execLD_ma16_SP (a : Addr) (s : State) : Result := storeSpAt (.ld_ma16_SP a) a s

/-- `LD A,(BC)` (R110). -/
def execLD_A_mBC (s : State) : Result := loadAccInd .ld_A_mBC .bc s

/-- `LD C,n8` (R106). -/
def execLD_C_n8 (n : Byte) (s : State) : Result := loadRegImm .c n s

/-- `LD DE,n16` (R124). -/
def execLD_DE_n16 (n : Addr) (s : State) : Result := loadWideImm .de n s

/-- `LD (DE),A` (R113). -/
def execLD_mDE_A (s : State) : Result := storeIndAcc .ld_mDE_A .de s

/-- `LD D,n8` (R106). -/
def execLD_D_n8 (n : Byte) (s : State) : Result := loadRegImm .d n s

/-- `LD A,(DE)` (R111). -/
def execLD_A_mDE (s : State) : Result := loadAccInd .ld_A_mDE .de s

/-- `LD E,n8` (R106). -/
def execLD_E_n8 (n : Byte) (s : State) : Result := loadRegImm .e n s

/-- `LD HL,n16` (R124). -/
def execLD_HL_n16 (n : Addr) (s : State) : Result := loadWideImm .hl n s

/-- `LD (HL+),A` (R114). -/
def execLD_mHLI_A (s : State) : Result := storeIndAcc .ld_mHLI_A .hlInc s

/-- `LD H,n8` (R106). -/
def execLD_H_n8 (n : Byte) (s : State) : Result := loadRegImm .h n s

/-- `LD A,(HL+)` (R116). -/
def execLD_A_mHLI (s : State) : Result := loadAccInd .ld_A_mHLI .hlInc s

/-- `LD L,n8` (R106). -/
def execLD_L_n8 (n : Byte) (s : State) : Result := loadRegImm .l n s

/-- `LD SP,n16` (R124). -/
def execLD_SP_n16 (n : Addr) (s : State) : Result := loadWideImm .sp n s

/-- `LD (HL-),A` (R115). -/
def execLD_mHLD_A (s : State) : Result := storeIndAcc .ld_mHLD_A .hlDec s

/-- `LD (HL),n8` (R109). -/
def execLD_mHL_n8 (n : Byte) (s : State) : Result := storeMHLImm (.ld_mHL_n8 n) n s

/-- `LD A,(HL-)` (R117). -/
def execLD_A_mHLD (s : State) : Result := loadAccInd .ld_A_mHLD .hlDec s

/-- `LD A,n8` (R106). -/
def execLD_A_n8 (n : Byte) (s : State) : Result := loadRegImm .a n s

/-- `LD B,B` (R105). -/
def execLD_B_B (s : State) : Result := loadRegReg .b .b s

/-- `LD B,C` (R105). -/
def execLD_B_C (s : State) : Result := loadRegReg .b .c s

/-- `LD B,D` (R105). -/
def execLD_B_D (s : State) : Result := loadRegReg .b .d s

/-- `LD B,E` (R105). -/
def execLD_B_E (s : State) : Result := loadRegReg .b .e s

/-- `LD B,H` (R105). -/
def execLD_B_H (s : State) : Result := loadRegReg .b .h s

/-- `LD B,L` (R105). -/
def execLD_B_L (s : State) : Result := loadRegReg .b .l s

/-- `LD B,(HL)` (R107). -/
def execLD_B_mHL (s : State) : Result := loadRegMHL .ld_B_mHL .b s

/-- `LD B,A` (R105). -/
def execLD_B_A (s : State) : Result := loadRegReg .b .a s

/-- `LD C,B` (R105). -/
def execLD_C_B (s : State) : Result := loadRegReg .c .b s

/-- `LD C,C` (R105). -/
def execLD_C_C (s : State) : Result := loadRegReg .c .c s

/-- `LD C,D` (R105). -/
def execLD_C_D (s : State) : Result := loadRegReg .c .d s

/-- `LD C,E` (R105). -/
def execLD_C_E (s : State) : Result := loadRegReg .c .e s

/-- `LD C,H` (R105). -/
def execLD_C_H (s : State) : Result := loadRegReg .c .h s

/-- `LD C,L` (R105). -/
def execLD_C_L (s : State) : Result := loadRegReg .c .l s

/-- `LD C,(HL)` (R107). -/
def execLD_C_mHL (s : State) : Result := loadRegMHL .ld_C_mHL .c s

/-- `LD C,A` (R105). -/
def execLD_C_A (s : State) : Result := loadRegReg .c .a s

/-- `LD D,B` (R105). -/
def execLD_D_B (s : State) : Result := loadRegReg .d .b s

/-- `LD D,C` (R105). -/
def execLD_D_C (s : State) : Result := loadRegReg .d .c s

/-- `LD D,D` (R105). -/
def execLD_D_D (s : State) : Result := loadRegReg .d .d s

/-- `LD D,E` (R105). -/
def execLD_D_E (s : State) : Result := loadRegReg .d .e s

/-- `LD D,H` (R105). -/
def execLD_D_H (s : State) : Result := loadRegReg .d .h s

/-- `LD D,L` (R105). -/
def execLD_D_L (s : State) : Result := loadRegReg .d .l s

/-- `LD D,(HL)` (R107). -/
def execLD_D_mHL (s : State) : Result := loadRegMHL .ld_D_mHL .d s

/-- `LD D,A` (R105). -/
def execLD_D_A (s : State) : Result := loadRegReg .d .a s

/-- `LD E,B` (R105). -/
def execLD_E_B (s : State) : Result := loadRegReg .e .b s

/-- `LD E,C` (R105). -/
def execLD_E_C (s : State) : Result := loadRegReg .e .c s

/-- `LD E,D` (R105). -/
def execLD_E_D (s : State) : Result := loadRegReg .e .d s

/-- `LD E,E` (R105). -/
def execLD_E_E (s : State) : Result := loadRegReg .e .e s

/-- `LD E,H` (R105). -/
def execLD_E_H (s : State) : Result := loadRegReg .e .h s

/-- `LD E,L` (R105). -/
def execLD_E_L (s : State) : Result := loadRegReg .e .l s

/-- `LD E,(HL)` (R107). -/
def execLD_E_mHL (s : State) : Result := loadRegMHL .ld_E_mHL .e s

/-- `LD E,A` (R105). -/
def execLD_E_A (s : State) : Result := loadRegReg .e .a s

/-- `LD H,B` (R105). -/
def execLD_H_B (s : State) : Result := loadRegReg .h .b s

/-- `LD H,C` (R105). -/
def execLD_H_C (s : State) : Result := loadRegReg .h .c s

/-- `LD H,D` (R105). -/
def execLD_H_D (s : State) : Result := loadRegReg .h .d s

/-- `LD H,E` (R105). -/
def execLD_H_E (s : State) : Result := loadRegReg .h .e s

/-- `LD H,H` (R105). -/
def execLD_H_H (s : State) : Result := loadRegReg .h .h s

/-- `LD H,L` (R105). -/
def execLD_H_L (s : State) : Result := loadRegReg .h .l s

/-- `LD H,(HL)` (R107). -/
def execLD_H_mHL (s : State) : Result := loadRegMHL .ld_H_mHL .h s

/-- `LD H,A` (R105). -/
def execLD_H_A (s : State) : Result := loadRegReg .h .a s

/-- `LD L,B` (R105). -/
def execLD_L_B (s : State) : Result := loadRegReg .l .b s

/-- `LD L,C` (R105). -/
def execLD_L_C (s : State) : Result := loadRegReg .l .c s

/-- `LD L,D` (R105). -/
def execLD_L_D (s : State) : Result := loadRegReg .l .d s

/-- `LD L,E` (R105). -/
def execLD_L_E (s : State) : Result := loadRegReg .l .e s

/-- `LD L,H` (R105). -/
def execLD_L_H (s : State) : Result := loadRegReg .l .h s

/-- `LD L,L` (R105). -/
def execLD_L_L (s : State) : Result := loadRegReg .l .l s

/-- `LD L,(HL)` (R107). -/
def execLD_L_mHL (s : State) : Result := loadRegMHL .ld_L_mHL .l s

/-- `LD L,A` (R105). -/
def execLD_L_A (s : State) : Result := loadRegReg .l .a s

/-- `LD (HL),B` (R108). -/
def execLD_mHL_B (s : State) : Result := storeMHLReg .ld_mHL_B .b s

/-- `LD (HL),C` (R108). -/
def execLD_mHL_C (s : State) : Result := storeMHLReg .ld_mHL_C .c s

/-- `LD (HL),D` (R108). -/
def execLD_mHL_D (s : State) : Result := storeMHLReg .ld_mHL_D .d s

/-- `LD (HL),E` (R108). -/
def execLD_mHL_E (s : State) : Result := storeMHLReg .ld_mHL_E .e s

/-- `LD (HL),H` (R108). -/
def execLD_mHL_H (s : State) : Result := storeMHLReg .ld_mHL_H .h s

/-- `LD (HL),L` (R108). -/
def execLD_mHL_L (s : State) : Result := storeMHLReg .ld_mHL_L .l s

/-- `LD (HL),A` (R108). -/
def execLD_mHL_A (s : State) : Result := storeMHLReg .ld_mHL_A .a s

/-- `LD A,B` (R105). -/
def execLD_A_B (s : State) : Result := loadRegReg .a .b s

/-- `LD A,C` (R105). -/
def execLD_A_C (s : State) : Result := loadRegReg .a .c s

/-- `LD A,D` (R105). -/
def execLD_A_D (s : State) : Result := loadRegReg .a .d s

/-- `LD A,E` (R105). -/
def execLD_A_E (s : State) : Result := loadRegReg .a .e s

/-- `LD A,H` (R105). -/
def execLD_A_H (s : State) : Result := loadRegReg .a .h s

/-- `LD A,L` (R105). -/
def execLD_A_L (s : State) : Result := loadRegReg .a .l s

/-- `LD A,(HL)` (R107). -/
def execLD_A_mHL (s : State) : Result := loadRegMHL .ld_A_mHL .a s

/-- `LD A,A` (R105). -/
def execLD_A_A (s : State) : Result := loadRegReg .a .a s

/-- `LDH (a8),A` (R120). -/
def execLDH_ma8_A (a : Byte) (s : State) : Result := storeAccAt (.ldh_ma8_A a) (pageAddr a) s

/-- `LD (C),A` (R122). -/
def execLD_mC_A (s : State) : Result := storeAccAt .ld_mC_A (pageAddr s.regs.c) s

/-- `LD (a16),A` (R118). -/
def execLD_ma16_A (a : Addr) (s : State) : Result := storeAccAt (.ld_ma16_A a) a s

/-- `LDH A,(a8)` (R121). -/
def execLDH_A_ma8 (a : Byte) (s : State) : Result := loadAccAt (.ldh_A_ma8 a) (pageAddr a) s

/-- `LD A,(C)` (R123). -/
def execLD_A_mC (s : State) : Result := loadAccAt .ld_A_mC (pageAddr s.regs.c) s

/-- `LD SP,HL` (R126). -/
def execLD_SP_HL (s : State) : Result := done (s.setSp s.hl)

/-- `LD A,(a16)` (R119). -/
def execLD_A_ma16 (a : Addr) (s : State) : Result := loadAccAt (.ld_A_ma16 a) a s

end Sys2Proof.Machine
end

