-- ==== Sys2Proof/Machine/Stack.lean ====
section
/-! DEFINITION. Stack operations (spec/44_stack.md R127 to R131). -/

namespace Sys2Proof.Machine

/-! ## Shared operations -/

/-- `Push16(pair(rr))` (R129). -/
def pushPair (i : Instr) (p : Pair) (s : State) : Result := finish i s (push16 (s.pair p) s)

/-- `pair(rr) <- Pop16()` (R130, R131): the pair is written once, after both reads. -/
def popPair (i : Instr) (p : Pair) (s : State) : Result :=
  finish i s ((pop16 s).andThen fun v t => .ok () (t.setPair p v))

/-! ## The instructions, in the order of the opcode table -/

/-- `POP BC` (R130). -/
def execPOP_BC (s : State) : Result := popPair .pop_BC .bc s

/-- `PUSH BC` (R129). -/
def execPUSH_BC (s : State) : Result := pushPair .push_BC .bc s

/-- `POP DE` (R130). -/
def execPOP_DE (s : State) : Result := popPair .pop_DE .de s

/-- `PUSH DE` (R129). -/
def execPUSH_DE (s : State) : Result := pushPair .push_DE .de s

/-- `POP HL` (R130). -/
def execPOP_HL (s : State) : Result := popPair .pop_HL .hl s

/-- `PUSH HL` (R129). -/
def execPUSH_HL (s : State) : Result := pushPair .push_HL .hl s

/-- `POP AF` (R131). -/
def execPOP_AF (s : State) : Result := popPair .pop_AF .af s

/-- `PUSH AF` (R129). -/
def execPUSH_AF (s : State) : Result := pushPair .push_AF .af s

end Sys2Proof.Machine
end

