-- ==== Sys2Proof/Machine/System.lean ====
section
/-! DEFINITION. NOP, the unwired opcodes and the sentinels (spec/47_system.md R160 to R166). An unwired opcode reports
`Unimplemented` and a sentinel reports `Fatal`: each is a next state, with the outcome the step returns in it (R68, R75). -/

namespace Sys2Proof.Machine

/-! ## The instructions, in the order of the opcode table -/

/-- `NOP` (R160). -/
def execNOP (s : State) : Result := done s

/-- `STOP` (R162): the padding byte is ignored. -/
def execSTOP (_pad : Option Byte) (s : State) : Result := unwired 0x10 s

/-- `HALT` (R161). -/
def execHALT (s : State) : Result := unwired 0x76 s

/-- `ILLEGAL_D3` (R166). -/
def execILLEGAL_D3 (s : State) : Result := sentinel 0xD3 s

/-- `RETI` (R165): nothing is popped. -/
def execRETI (s : State) : Result := unwired 0xD9 s

/-- `ILLEGAL_DB` (R166). -/
def execILLEGAL_DB (s : State) : Result := sentinel 0xDB s

/-- `ILLEGAL_DD` (R166). -/
def execILLEGAL_DD (s : State) : Result := sentinel 0xDD s

/-- `ILLEGAL_E3` (R166). -/
def execILLEGAL_E3 (s : State) : Result := sentinel 0xE3 s

/-- `ILLEGAL_E4` (R166). -/
def execILLEGAL_E4 (s : State) : Result := sentinel 0xE4 s

/-- `ILLEGAL_EB` (R166). -/
def execILLEGAL_EB (s : State) : Result := sentinel 0xEB s

/-- `ILLEGAL_EC` (R166). -/
def execILLEGAL_EC (s : State) : Result := sentinel 0xEC s

/-- `ILLEGAL_ED` (R166). -/
def execILLEGAL_ED (s : State) : Result := sentinel 0xED s

/-- `DI` (R163). -/
def execDI (s : State) : Result := unwired 0xF3 s

/-- `ILLEGAL_F4` (R166). -/
def execILLEGAL_F4 (s : State) : Result := sentinel 0xF4 s

/-- `EI` (R164). -/
def execEI (s : State) : Result := unwired 0xFB s

/-- `ILLEGAL_FC` (R166). -/
def execILLEGAL_FC (s : State) : Result := sentinel 0xFC s

/-- `ILLEGAL_FD` (R166). -/
def execILLEGAL_FD (s : State) : Result := sentinel 0xFD s

end Sys2Proof.Machine
end

