-- ==== Sys2Proof/Machine/Dispatch.lean ====
section
/-! DEFINITION. Dispatch: one arm for each row of the opcode table, in the order of `Instr` (spec/40_cycle.md R75). -/

namespace Sys2Proof.Machine

def exec (i : Instr) (s : State) : Host.Outcome State Fault Refusal :=
  match i with
  | .ld_BC_n16 n => Sys2Proof.Machine.execLD_BC_n16 n s
  | .ld_B_n8 n => Sys2Proof.Machine.execLD_B_n8 n s
  | .ld_ma16_SP a => Sys2Proof.Machine.execLD_ma16_SP a s
  | .ld_C_n8 n => Sys2Proof.Machine.execLD_C_n8 n s
  | .stop pad => Sys2Proof.Machine.execSTOP pad s
  | .ld_DE_n16 n => Sys2Proof.Machine.execLD_DE_n16 n s
  | .ld_D_n8 n => Sys2Proof.Machine.execLD_D_n8 n s
  | .jr_e8 e => Sys2Proof.Machine.execJR_e8 e s
  | .ld_E_n8 n => Sys2Proof.Machine.execLD_E_n8 n s
  | .jr_NZ_e8 e => Sys2Proof.Machine.execJR_NZ_e8 e s
  | .ld_HL_n16 n => Sys2Proof.Machine.execLD_HL_n16 n s
  | .ld_H_n8 n => Sys2Proof.Machine.execLD_H_n8 n s
  | .jr_Z_e8 e => Sys2Proof.Machine.execJR_Z_e8 e s
  | .ld_L_n8 n => Sys2Proof.Machine.execLD_L_n8 n s
  | .jr_NC_e8 e => Sys2Proof.Machine.execJR_NC_e8 e s
  | .ld_SP_n16 n => Sys2Proof.Machine.execLD_SP_n16 n s
  | .ld_mHL_n8 n => Sys2Proof.Machine.execLD_mHL_n8 n s
  | .jr_C_e8 e => Sys2Proof.Machine.execJR_C_e8 e s
  | .ld_A_n8 n => Sys2Proof.Machine.execLD_A_n8 n s
  | .jp_NZ_a16 a => Sys2Proof.Machine.execJP_NZ_a16 a s
  | .jp_a16 a => Sys2Proof.Machine.execJP_a16 a s
  | .call_NZ_a16 a => Sys2Proof.Machine.execCALL_NZ_a16 a s
  | .add_A_n8 n => Sys2Proof.Machine.execADD_A_n8 n s
  | .jp_Z_a16 a => Sys2Proof.Machine.execJP_Z_a16 a s
  | .prefix_CB sub => Sys2Proof.Machine.execPREFIX_CB sub s
  | .call_Z_a16 a => Sys2Proof.Machine.execCALL_Z_a16 a s
  | .call_a16 a => Sys2Proof.Machine.execCALL_a16 a s
  | .adc_A_n8 n => Sys2Proof.Machine.execADC_A_n8 n s
  | .jp_NC_a16 a => Sys2Proof.Machine.execJP_NC_a16 a s
  | .call_NC_a16 a => Sys2Proof.Machine.execCALL_NC_a16 a s
  | .sub_A_n8 n => Sys2Proof.Machine.execSUB_A_n8 n s
  | .jp_C_a16 a => Sys2Proof.Machine.execJP_C_a16 a s
  | .call_C_a16 a => Sys2Proof.Machine.execCALL_C_a16 a s
  | .sbc_A_n8 n => Sys2Proof.Machine.execSBC_A_n8 n s
  | .ldh_ma8_A a => Sys2Proof.Machine.execLDH_ma8_A a s
  | .and_A_n8 n => Sys2Proof.Machine.execAND_A_n8 n s
  | .add_SP_e8 e => Sys2Proof.Machine.execADD_SP_e8 e s
  | .ld_ma16_A a => Sys2Proof.Machine.execLD_ma16_A a s
  | .xor_A_n8 n => Sys2Proof.Machine.execXOR_A_n8 n s
  | .ldh_A_ma8 a => Sys2Proof.Machine.execLDH_A_ma8 a s
  | .or_A_n8 n => Sys2Proof.Machine.execOR_A_n8 n s
  | .ld_HL_SPe8 e => Sys2Proof.Machine.execLD_HL_SPe8 e s
  | .ld_A_ma16 a => Sys2Proof.Machine.execLD_A_ma16 a s
  | .cp_A_n8 n => Sys2Proof.Machine.execCP_A_n8 n s
  | .nop => Sys2Proof.Machine.execNOP s
  | .ld_mBC_A => Sys2Proof.Machine.execLD_mBC_A s
  | .inc_BC => Sys2Proof.Machine.execINC_BC s
  | .inc_B => Sys2Proof.Machine.execINC_B s
  | .dec_B => Sys2Proof.Machine.execDEC_B s
  | .rlca => Sys2Proof.Machine.execRLCA s
  | .add_HL_BC => Sys2Proof.Machine.execADD_HL_BC s
  | .ld_A_mBC => Sys2Proof.Machine.execLD_A_mBC s
  | .dec_BC => Sys2Proof.Machine.execDEC_BC s
  | .inc_C => Sys2Proof.Machine.execINC_C s
  | .dec_C => Sys2Proof.Machine.execDEC_C s
  | .rrca => Sys2Proof.Machine.execRRCA s
  | .ld_mDE_A => Sys2Proof.Machine.execLD_mDE_A s
  | .inc_DE => Sys2Proof.Machine.execINC_DE s
  | .inc_D => Sys2Proof.Machine.execINC_D s
  | .dec_D => Sys2Proof.Machine.execDEC_D s
  | .rla => Sys2Proof.Machine.execRLA s
  | .add_HL_DE => Sys2Proof.Machine.execADD_HL_DE s
  | .ld_A_mDE => Sys2Proof.Machine.execLD_A_mDE s
  | .dec_DE => Sys2Proof.Machine.execDEC_DE s
  | .inc_E => Sys2Proof.Machine.execINC_E s
  | .dec_E => Sys2Proof.Machine.execDEC_E s
  | .rra => Sys2Proof.Machine.execRRA s
  | .ld_mHLI_A => Sys2Proof.Machine.execLD_mHLI_A s
  | .inc_HL => Sys2Proof.Machine.execINC_HL s
  | .inc_H => Sys2Proof.Machine.execINC_H s
  | .dec_H => Sys2Proof.Machine.execDEC_H s
  | .daa => Sys2Proof.Machine.execDAA s
  | .add_HL_HL => Sys2Proof.Machine.execADD_HL_HL s
  | .ld_A_mHLI => Sys2Proof.Machine.execLD_A_mHLI s
  | .dec_HL => Sys2Proof.Machine.execDEC_HL s
  | .inc_L => Sys2Proof.Machine.execINC_L s
  | .dec_L => Sys2Proof.Machine.execDEC_L s
  | .cpl => Sys2Proof.Machine.execCPL s
  | .ld_mHLD_A => Sys2Proof.Machine.execLD_mHLD_A s
  | .inc_SP => Sys2Proof.Machine.execINC_SP s
  | .inc_mHL => Sys2Proof.Machine.execINC_mHL s
  | .dec_mHL => Sys2Proof.Machine.execDEC_mHL s
  | .scf => Sys2Proof.Machine.execSCF s
  | .add_HL_SP => Sys2Proof.Machine.execADD_HL_SP s
  | .ld_A_mHLD => Sys2Proof.Machine.execLD_A_mHLD s
  | .dec_SP => Sys2Proof.Machine.execDEC_SP s
  | .inc_A => Sys2Proof.Machine.execINC_A s
  | .dec_A => Sys2Proof.Machine.execDEC_A s
  | .ccf => Sys2Proof.Machine.execCCF s
  | .ld_B_B => Sys2Proof.Machine.execLD_B_B s
  | .ld_B_C => Sys2Proof.Machine.execLD_B_C s
  | .ld_B_D => Sys2Proof.Machine.execLD_B_D s
  | .ld_B_E => Sys2Proof.Machine.execLD_B_E s
  | .ld_B_H => Sys2Proof.Machine.execLD_B_H s
  | .ld_B_L => Sys2Proof.Machine.execLD_B_L s
  | .ld_B_mHL => Sys2Proof.Machine.execLD_B_mHL s
  | .ld_B_A => Sys2Proof.Machine.execLD_B_A s
  | .ld_C_B => Sys2Proof.Machine.execLD_C_B s
  | .ld_C_C => Sys2Proof.Machine.execLD_C_C s
  | .ld_C_D => Sys2Proof.Machine.execLD_C_D s
  | .ld_C_E => Sys2Proof.Machine.execLD_C_E s
  | .ld_C_H => Sys2Proof.Machine.execLD_C_H s
  | .ld_C_L => Sys2Proof.Machine.execLD_C_L s
  | .ld_C_mHL => Sys2Proof.Machine.execLD_C_mHL s
  | .ld_C_A => Sys2Proof.Machine.execLD_C_A s
  | .ld_D_B => Sys2Proof.Machine.execLD_D_B s
  | .ld_D_C => Sys2Proof.Machine.execLD_D_C s
  | .ld_D_D => Sys2Proof.Machine.execLD_D_D s
  | .ld_D_E => Sys2Proof.Machine.execLD_D_E s
  | .ld_D_H => Sys2Proof.Machine.execLD_D_H s
  | .ld_D_L => Sys2Proof.Machine.execLD_D_L s
  | .ld_D_mHL => Sys2Proof.Machine.execLD_D_mHL s
  | .ld_D_A => Sys2Proof.Machine.execLD_D_A s
  | .ld_E_B => Sys2Proof.Machine.execLD_E_B s
  | .ld_E_C => Sys2Proof.Machine.execLD_E_C s
  | .ld_E_D => Sys2Proof.Machine.execLD_E_D s
  | .ld_E_E => Sys2Proof.Machine.execLD_E_E s
  | .ld_E_H => Sys2Proof.Machine.execLD_E_H s
  | .ld_E_L => Sys2Proof.Machine.execLD_E_L s
  | .ld_E_mHL => Sys2Proof.Machine.execLD_E_mHL s
  | .ld_E_A => Sys2Proof.Machine.execLD_E_A s
  | .ld_H_B => Sys2Proof.Machine.execLD_H_B s
  | .ld_H_C => Sys2Proof.Machine.execLD_H_C s
  | .ld_H_D => Sys2Proof.Machine.execLD_H_D s
  | .ld_H_E => Sys2Proof.Machine.execLD_H_E s
  | .ld_H_H => Sys2Proof.Machine.execLD_H_H s
  | .ld_H_L => Sys2Proof.Machine.execLD_H_L s
  | .ld_H_mHL => Sys2Proof.Machine.execLD_H_mHL s
  | .ld_H_A => Sys2Proof.Machine.execLD_H_A s
  | .ld_L_B => Sys2Proof.Machine.execLD_L_B s
  | .ld_L_C => Sys2Proof.Machine.execLD_L_C s
  | .ld_L_D => Sys2Proof.Machine.execLD_L_D s
  | .ld_L_E => Sys2Proof.Machine.execLD_L_E s
  | .ld_L_H => Sys2Proof.Machine.execLD_L_H s
  | .ld_L_L => Sys2Proof.Machine.execLD_L_L s
  | .ld_L_mHL => Sys2Proof.Machine.execLD_L_mHL s
  | .ld_L_A => Sys2Proof.Machine.execLD_L_A s
  | .ld_mHL_B => Sys2Proof.Machine.execLD_mHL_B s
  | .ld_mHL_C => Sys2Proof.Machine.execLD_mHL_C s
  | .ld_mHL_D => Sys2Proof.Machine.execLD_mHL_D s
  | .ld_mHL_E => Sys2Proof.Machine.execLD_mHL_E s
  | .ld_mHL_H => Sys2Proof.Machine.execLD_mHL_H s
  | .ld_mHL_L => Sys2Proof.Machine.execLD_mHL_L s
  | .halt => Sys2Proof.Machine.execHALT s
  | .ld_mHL_A => Sys2Proof.Machine.execLD_mHL_A s
  | .ld_A_B => Sys2Proof.Machine.execLD_A_B s
  | .ld_A_C => Sys2Proof.Machine.execLD_A_C s
  | .ld_A_D => Sys2Proof.Machine.execLD_A_D s
  | .ld_A_E => Sys2Proof.Machine.execLD_A_E s
  | .ld_A_H => Sys2Proof.Machine.execLD_A_H s
  | .ld_A_L => Sys2Proof.Machine.execLD_A_L s
  | .ld_A_mHL => Sys2Proof.Machine.execLD_A_mHL s
  | .ld_A_A => Sys2Proof.Machine.execLD_A_A s
  | .add_A_B => Sys2Proof.Machine.execADD_A_B s
  | .add_A_C => Sys2Proof.Machine.execADD_A_C s
  | .add_A_D => Sys2Proof.Machine.execADD_A_D s
  | .add_A_E => Sys2Proof.Machine.execADD_A_E s
  | .add_A_H => Sys2Proof.Machine.execADD_A_H s
  | .add_A_L => Sys2Proof.Machine.execADD_A_L s
  | .add_A_mHL => Sys2Proof.Machine.execADD_A_mHL s
  | .add_A_A => Sys2Proof.Machine.execADD_A_A s
  | .adc_A_B => Sys2Proof.Machine.execADC_A_B s
  | .adc_A_C => Sys2Proof.Machine.execADC_A_C s
  | .adc_A_D => Sys2Proof.Machine.execADC_A_D s
  | .adc_A_E => Sys2Proof.Machine.execADC_A_E s
  | .adc_A_H => Sys2Proof.Machine.execADC_A_H s
  | .adc_A_L => Sys2Proof.Machine.execADC_A_L s
  | .adc_A_mHL => Sys2Proof.Machine.execADC_A_mHL s
  | .adc_A_A => Sys2Proof.Machine.execADC_A_A s
  | .sub_A_B => Sys2Proof.Machine.execSUB_A_B s
  | .sub_A_C => Sys2Proof.Machine.execSUB_A_C s
  | .sub_A_D => Sys2Proof.Machine.execSUB_A_D s
  | .sub_A_E => Sys2Proof.Machine.execSUB_A_E s
  | .sub_A_H => Sys2Proof.Machine.execSUB_A_H s
  | .sub_A_L => Sys2Proof.Machine.execSUB_A_L s
  | .sub_A_mHL => Sys2Proof.Machine.execSUB_A_mHL s
  | .sub_A_A => Sys2Proof.Machine.execSUB_A_A s
  | .sbc_A_B => Sys2Proof.Machine.execSBC_A_B s
  | .sbc_A_C => Sys2Proof.Machine.execSBC_A_C s
  | .sbc_A_D => Sys2Proof.Machine.execSBC_A_D s
  | .sbc_A_E => Sys2Proof.Machine.execSBC_A_E s
  | .sbc_A_H => Sys2Proof.Machine.execSBC_A_H s
  | .sbc_A_L => Sys2Proof.Machine.execSBC_A_L s
  | .sbc_A_mHL => Sys2Proof.Machine.execSBC_A_mHL s
  | .sbc_A_A => Sys2Proof.Machine.execSBC_A_A s
  | .and_A_B => Sys2Proof.Machine.execAND_A_B s
  | .and_A_C => Sys2Proof.Machine.execAND_A_C s
  | .and_A_D => Sys2Proof.Machine.execAND_A_D s
  | .and_A_E => Sys2Proof.Machine.execAND_A_E s
  | .and_A_H => Sys2Proof.Machine.execAND_A_H s
  | .and_A_L => Sys2Proof.Machine.execAND_A_L s
  | .and_A_mHL => Sys2Proof.Machine.execAND_A_mHL s
  | .and_A_A => Sys2Proof.Machine.execAND_A_A s
  | .xor_A_B => Sys2Proof.Machine.execXOR_A_B s
  | .xor_A_C => Sys2Proof.Machine.execXOR_A_C s
  | .xor_A_D => Sys2Proof.Machine.execXOR_A_D s
  | .xor_A_E => Sys2Proof.Machine.execXOR_A_E s
  | .xor_A_H => Sys2Proof.Machine.execXOR_A_H s
  | .xor_A_L => Sys2Proof.Machine.execXOR_A_L s
  | .xor_A_mHL => Sys2Proof.Machine.execXOR_A_mHL s
  | .xor_A_A => Sys2Proof.Machine.execXOR_A_A s
  | .or_A_B => Sys2Proof.Machine.execOR_A_B s
  | .or_A_C => Sys2Proof.Machine.execOR_A_C s
  | .or_A_D => Sys2Proof.Machine.execOR_A_D s
  | .or_A_E => Sys2Proof.Machine.execOR_A_E s
  | .or_A_H => Sys2Proof.Machine.execOR_A_H s
  | .or_A_L => Sys2Proof.Machine.execOR_A_L s
  | .or_A_mHL => Sys2Proof.Machine.execOR_A_mHL s
  | .or_A_A => Sys2Proof.Machine.execOR_A_A s
  | .cp_A_B => Sys2Proof.Machine.execCP_A_B s
  | .cp_A_C => Sys2Proof.Machine.execCP_A_C s
  | .cp_A_D => Sys2Proof.Machine.execCP_A_D s
  | .cp_A_E => Sys2Proof.Machine.execCP_A_E s
  | .cp_A_H => Sys2Proof.Machine.execCP_A_H s
  | .cp_A_L => Sys2Proof.Machine.execCP_A_L s
  | .cp_A_mHL => Sys2Proof.Machine.execCP_A_mHL s
  | .cp_A_A => Sys2Proof.Machine.execCP_A_A s
  | .ret_NZ => Sys2Proof.Machine.execRET_NZ s
  | .pop_BC => Sys2Proof.Machine.execPOP_BC s
  | .push_BC => Sys2Proof.Machine.execPUSH_BC s
  | .rst_00 => Sys2Proof.Machine.execRST_00 s
  | .ret_Z => Sys2Proof.Machine.execRET_Z s
  | .ret => Sys2Proof.Machine.execRET s
  | .rst_08 => Sys2Proof.Machine.execRST_08 s
  | .ret_NC => Sys2Proof.Machine.execRET_NC s
  | .pop_DE => Sys2Proof.Machine.execPOP_DE s
  | .illegal_D3 => Sys2Proof.Machine.execILLEGAL_D3 s
  | .push_DE => Sys2Proof.Machine.execPUSH_DE s
  | .rst_10 => Sys2Proof.Machine.execRST_10 s
  | .ret_C => Sys2Proof.Machine.execRET_C s
  | .reti => Sys2Proof.Machine.execRETI s
  | .illegal_DB => Sys2Proof.Machine.execILLEGAL_DB s
  | .illegal_DD => Sys2Proof.Machine.execILLEGAL_DD s
  | .rst_18 => Sys2Proof.Machine.execRST_18 s
  | .pop_HL => Sys2Proof.Machine.execPOP_HL s
  | .ld_mC_A => Sys2Proof.Machine.execLD_mC_A s
  | .illegal_E3 => Sys2Proof.Machine.execILLEGAL_E3 s
  | .illegal_E4 => Sys2Proof.Machine.execILLEGAL_E4 s
  | .push_HL => Sys2Proof.Machine.execPUSH_HL s
  | .rst_20 => Sys2Proof.Machine.execRST_20 s
  | .jp_HL => Sys2Proof.Machine.execJP_HL s
  | .illegal_EB => Sys2Proof.Machine.execILLEGAL_EB s
  | .illegal_EC => Sys2Proof.Machine.execILLEGAL_EC s
  | .illegal_ED => Sys2Proof.Machine.execILLEGAL_ED s
  | .rst_28 => Sys2Proof.Machine.execRST_28 s
  | .pop_AF => Sys2Proof.Machine.execPOP_AF s
  | .ld_A_mC => Sys2Proof.Machine.execLD_A_mC s
  | .di => Sys2Proof.Machine.execDI s
  | .illegal_F4 => Sys2Proof.Machine.execILLEGAL_F4 s
  | .push_AF => Sys2Proof.Machine.execPUSH_AF s
  | .rst_30 => Sys2Proof.Machine.execRST_30 s
  | .ld_SP_HL => Sys2Proof.Machine.execLD_SP_HL s
  | .ei => Sys2Proof.Machine.execEI s
  | .illegal_FC => Sys2Proof.Machine.execILLEGAL_FC s
  | .illegal_FD => Sys2Proof.Machine.execILLEGAL_FD s
  | .rst_38 => Sys2Proof.Machine.execRST_38 s
  | .rlc_B => Sys2Proof.Machine.execRLC_B s
  | .rlc_C => Sys2Proof.Machine.execRLC_C s
  | .rlc_D => Sys2Proof.Machine.execRLC_D s
  | .rlc_E => Sys2Proof.Machine.execRLC_E s
  | .rlc_H => Sys2Proof.Machine.execRLC_H s
  | .rlc_L => Sys2Proof.Machine.execRLC_L s
  | .rlc_mHL => Sys2Proof.Machine.execRLC_mHL s
  | .rlc_A => Sys2Proof.Machine.execRLC_A s
  | .rrc_B => Sys2Proof.Machine.execRRC_B s
  | .rrc_C => Sys2Proof.Machine.execRRC_C s
  | .rrc_D => Sys2Proof.Machine.execRRC_D s
  | .rrc_E => Sys2Proof.Machine.execRRC_E s
  | .rrc_H => Sys2Proof.Machine.execRRC_H s
  | .rrc_L => Sys2Proof.Machine.execRRC_L s
  | .rrc_mHL => Sys2Proof.Machine.execRRC_mHL s
  | .rrc_A => Sys2Proof.Machine.execRRC_A s
  | .rl_B => Sys2Proof.Machine.execRL_B s
  | .rl_C => Sys2Proof.Machine.execRL_C s
  | .rl_D => Sys2Proof.Machine.execRL_D s
  | .rl_E => Sys2Proof.Machine.execRL_E s
  | .rl_H => Sys2Proof.Machine.execRL_H s
  | .rl_L => Sys2Proof.Machine.execRL_L s
  | .rl_mHL => Sys2Proof.Machine.execRL_mHL s
  | .rl_A => Sys2Proof.Machine.execRL_A s
  | .rr_B => Sys2Proof.Machine.execRR_B s
  | .rr_C => Sys2Proof.Machine.execRR_C s
  | .rr_D => Sys2Proof.Machine.execRR_D s
  | .rr_E => Sys2Proof.Machine.execRR_E s
  | .rr_H => Sys2Proof.Machine.execRR_H s
  | .rr_L => Sys2Proof.Machine.execRR_L s
  | .rr_mHL => Sys2Proof.Machine.execRR_mHL s
  | .rr_A => Sys2Proof.Machine.execRR_A s
  | .sla_B => Sys2Proof.Machine.execSLA_B s
  | .sla_C => Sys2Proof.Machine.execSLA_C s
  | .sla_D => Sys2Proof.Machine.execSLA_D s
  | .sla_E => Sys2Proof.Machine.execSLA_E s
  | .sla_H => Sys2Proof.Machine.execSLA_H s
  | .sla_L => Sys2Proof.Machine.execSLA_L s
  | .sla_mHL => Sys2Proof.Machine.execSLA_mHL s
  | .sla_A => Sys2Proof.Machine.execSLA_A s
  | .sra_B => Sys2Proof.Machine.execSRA_B s
  | .sra_C => Sys2Proof.Machine.execSRA_C s
  | .sra_D => Sys2Proof.Machine.execSRA_D s
  | .sra_E => Sys2Proof.Machine.execSRA_E s
  | .sra_H => Sys2Proof.Machine.execSRA_H s
  | .sra_L => Sys2Proof.Machine.execSRA_L s
  | .sra_mHL => Sys2Proof.Machine.execSRA_mHL s
  | .sra_A => Sys2Proof.Machine.execSRA_A s
  | .swap_B => Sys2Proof.Machine.execSWAP_B s
  | .swap_C => Sys2Proof.Machine.execSWAP_C s
  | .swap_D => Sys2Proof.Machine.execSWAP_D s
  | .swap_E => Sys2Proof.Machine.execSWAP_E s
  | .swap_H => Sys2Proof.Machine.execSWAP_H s
  | .swap_L => Sys2Proof.Machine.execSWAP_L s
  | .swap_mHL => Sys2Proof.Machine.execSWAP_mHL s
  | .swap_A => Sys2Proof.Machine.execSWAP_A s
  | .srl_B => Sys2Proof.Machine.execSRL_B s
  | .srl_C => Sys2Proof.Machine.execSRL_C s
  | .srl_D => Sys2Proof.Machine.execSRL_D s
  | .srl_E => Sys2Proof.Machine.execSRL_E s
  | .srl_H => Sys2Proof.Machine.execSRL_H s
  | .srl_L => Sys2Proof.Machine.execSRL_L s
  | .srl_mHL => Sys2Proof.Machine.execSRL_mHL s
  | .srl_A => Sys2Proof.Machine.execSRL_A s
  | .bit_0_B => Sys2Proof.Machine.execBIT_0_B s
  | .bit_0_C => Sys2Proof.Machine.execBIT_0_C s
  | .bit_0_D => Sys2Proof.Machine.execBIT_0_D s
  | .bit_0_E => Sys2Proof.Machine.execBIT_0_E s
  | .bit_0_H => Sys2Proof.Machine.execBIT_0_H s
  | .bit_0_L => Sys2Proof.Machine.execBIT_0_L s
  | .bit_0_mHL => Sys2Proof.Machine.execBIT_0_mHL s
  | .bit_0_A => Sys2Proof.Machine.execBIT_0_A s
  | .bit_1_B => Sys2Proof.Machine.execBIT_1_B s
  | .bit_1_C => Sys2Proof.Machine.execBIT_1_C s
  | .bit_1_D => Sys2Proof.Machine.execBIT_1_D s
  | .bit_1_E => Sys2Proof.Machine.execBIT_1_E s
  | .bit_1_H => Sys2Proof.Machine.execBIT_1_H s
  | .bit_1_L => Sys2Proof.Machine.execBIT_1_L s
  | .bit_1_mHL => Sys2Proof.Machine.execBIT_1_mHL s
  | .bit_1_A => Sys2Proof.Machine.execBIT_1_A s
  | .bit_2_B => Sys2Proof.Machine.execBIT_2_B s
  | .bit_2_C => Sys2Proof.Machine.execBIT_2_C s
  | .bit_2_D => Sys2Proof.Machine.execBIT_2_D s
  | .bit_2_E => Sys2Proof.Machine.execBIT_2_E s
  | .bit_2_H => Sys2Proof.Machine.execBIT_2_H s
  | .bit_2_L => Sys2Proof.Machine.execBIT_2_L s
  | .bit_2_mHL => Sys2Proof.Machine.execBIT_2_mHL s
  | .bit_2_A => Sys2Proof.Machine.execBIT_2_A s
  | .bit_3_B => Sys2Proof.Machine.execBIT_3_B s
  | .bit_3_C => Sys2Proof.Machine.execBIT_3_C s
  | .bit_3_D => Sys2Proof.Machine.execBIT_3_D s
  | .bit_3_E => Sys2Proof.Machine.execBIT_3_E s
  | .bit_3_H => Sys2Proof.Machine.execBIT_3_H s
  | .bit_3_L => Sys2Proof.Machine.execBIT_3_L s
  | .bit_3_mHL => Sys2Proof.Machine.execBIT_3_mHL s
  | .bit_3_A => Sys2Proof.Machine.execBIT_3_A s
  | .bit_4_B => Sys2Proof.Machine.execBIT_4_B s
  | .bit_4_C => Sys2Proof.Machine.execBIT_4_C s
  | .bit_4_D => Sys2Proof.Machine.execBIT_4_D s
  | .bit_4_E => Sys2Proof.Machine.execBIT_4_E s
  | .bit_4_H => Sys2Proof.Machine.execBIT_4_H s
  | .bit_4_L => Sys2Proof.Machine.execBIT_4_L s
  | .bit_4_mHL => Sys2Proof.Machine.execBIT_4_mHL s
  | .bit_4_A => Sys2Proof.Machine.execBIT_4_A s
  | .bit_5_B => Sys2Proof.Machine.execBIT_5_B s
  | .bit_5_C => Sys2Proof.Machine.execBIT_5_C s
  | .bit_5_D => Sys2Proof.Machine.execBIT_5_D s
  | .bit_5_E => Sys2Proof.Machine.execBIT_5_E s
  | .bit_5_H => Sys2Proof.Machine.execBIT_5_H s
  | .bit_5_L => Sys2Proof.Machine.execBIT_5_L s
  | .bit_5_mHL => Sys2Proof.Machine.execBIT_5_mHL s
  | .bit_5_A => Sys2Proof.Machine.execBIT_5_A s
  | .bit_6_B => Sys2Proof.Machine.execBIT_6_B s
  | .bit_6_C => Sys2Proof.Machine.execBIT_6_C s
  | .bit_6_D => Sys2Proof.Machine.execBIT_6_D s
  | .bit_6_E => Sys2Proof.Machine.execBIT_6_E s
  | .bit_6_H => Sys2Proof.Machine.execBIT_6_H s
  | .bit_6_L => Sys2Proof.Machine.execBIT_6_L s
  | .bit_6_mHL => Sys2Proof.Machine.execBIT_6_mHL s
  | .bit_6_A => Sys2Proof.Machine.execBIT_6_A s
  | .bit_7_B => Sys2Proof.Machine.execBIT_7_B s
  | .bit_7_C => Sys2Proof.Machine.execBIT_7_C s
  | .bit_7_D => Sys2Proof.Machine.execBIT_7_D s
  | .bit_7_E => Sys2Proof.Machine.execBIT_7_E s
  | .bit_7_H => Sys2Proof.Machine.execBIT_7_H s
  | .bit_7_L => Sys2Proof.Machine.execBIT_7_L s
  | .bit_7_mHL => Sys2Proof.Machine.execBIT_7_mHL s
  | .bit_7_A => Sys2Proof.Machine.execBIT_7_A s
  | .res_0_B => Sys2Proof.Machine.execRES_0_B s
  | .res_0_C => Sys2Proof.Machine.execRES_0_C s
  | .res_0_D => Sys2Proof.Machine.execRES_0_D s
  | .res_0_E => Sys2Proof.Machine.execRES_0_E s
  | .res_0_H => Sys2Proof.Machine.execRES_0_H s
  | .res_0_L => Sys2Proof.Machine.execRES_0_L s
  | .res_0_mHL => Sys2Proof.Machine.execRES_0_mHL s
  | .res_0_A => Sys2Proof.Machine.execRES_0_A s
  | .res_1_B => Sys2Proof.Machine.execRES_1_B s
  | .res_1_C => Sys2Proof.Machine.execRES_1_C s
  | .res_1_D => Sys2Proof.Machine.execRES_1_D s
  | .res_1_E => Sys2Proof.Machine.execRES_1_E s
  | .res_1_H => Sys2Proof.Machine.execRES_1_H s
  | .res_1_L => Sys2Proof.Machine.execRES_1_L s
  | .res_1_mHL => Sys2Proof.Machine.execRES_1_mHL s
  | .res_1_A => Sys2Proof.Machine.execRES_1_A s
  | .res_2_B => Sys2Proof.Machine.execRES_2_B s
  | .res_2_C => Sys2Proof.Machine.execRES_2_C s
  | .res_2_D => Sys2Proof.Machine.execRES_2_D s
  | .res_2_E => Sys2Proof.Machine.execRES_2_E s
  | .res_2_H => Sys2Proof.Machine.execRES_2_H s
  | .res_2_L => Sys2Proof.Machine.execRES_2_L s
  | .res_2_mHL => Sys2Proof.Machine.execRES_2_mHL s
  | .res_2_A => Sys2Proof.Machine.execRES_2_A s
  | .res_3_B => Sys2Proof.Machine.execRES_3_B s
  | .res_3_C => Sys2Proof.Machine.execRES_3_C s
  | .res_3_D => Sys2Proof.Machine.execRES_3_D s
  | .res_3_E => Sys2Proof.Machine.execRES_3_E s
  | .res_3_H => Sys2Proof.Machine.execRES_3_H s
  | .res_3_L => Sys2Proof.Machine.execRES_3_L s
  | .res_3_mHL => Sys2Proof.Machine.execRES_3_mHL s
  | .res_3_A => Sys2Proof.Machine.execRES_3_A s
  | .res_4_B => Sys2Proof.Machine.execRES_4_B s
  | .res_4_C => Sys2Proof.Machine.execRES_4_C s
  | .res_4_D => Sys2Proof.Machine.execRES_4_D s
  | .res_4_E => Sys2Proof.Machine.execRES_4_E s
  | .res_4_H => Sys2Proof.Machine.execRES_4_H s
  | .res_4_L => Sys2Proof.Machine.execRES_4_L s
  | .res_4_mHL => Sys2Proof.Machine.execRES_4_mHL s
  | .res_4_A => Sys2Proof.Machine.execRES_4_A s
  | .res_5_B => Sys2Proof.Machine.execRES_5_B s
  | .res_5_C => Sys2Proof.Machine.execRES_5_C s
  | .res_5_D => Sys2Proof.Machine.execRES_5_D s
  | .res_5_E => Sys2Proof.Machine.execRES_5_E s
  | .res_5_H => Sys2Proof.Machine.execRES_5_H s
  | .res_5_L => Sys2Proof.Machine.execRES_5_L s
  | .res_5_mHL => Sys2Proof.Machine.execRES_5_mHL s
  | .res_5_A => Sys2Proof.Machine.execRES_5_A s
  | .res_6_B => Sys2Proof.Machine.execRES_6_B s
  | .res_6_C => Sys2Proof.Machine.execRES_6_C s
  | .res_6_D => Sys2Proof.Machine.execRES_6_D s
  | .res_6_E => Sys2Proof.Machine.execRES_6_E s
  | .res_6_H => Sys2Proof.Machine.execRES_6_H s
  | .res_6_L => Sys2Proof.Machine.execRES_6_L s
  | .res_6_mHL => Sys2Proof.Machine.execRES_6_mHL s
  | .res_6_A => Sys2Proof.Machine.execRES_6_A s
  | .res_7_B => Sys2Proof.Machine.execRES_7_B s
  | .res_7_C => Sys2Proof.Machine.execRES_7_C s
  | .res_7_D => Sys2Proof.Machine.execRES_7_D s
  | .res_7_E => Sys2Proof.Machine.execRES_7_E s
  | .res_7_H => Sys2Proof.Machine.execRES_7_H s
  | .res_7_L => Sys2Proof.Machine.execRES_7_L s
  | .res_7_mHL => Sys2Proof.Machine.execRES_7_mHL s
  | .res_7_A => Sys2Proof.Machine.execRES_7_A s
  | .set_0_B => Sys2Proof.Machine.execSET_0_B s
  | .set_0_C => Sys2Proof.Machine.execSET_0_C s
  | .set_0_D => Sys2Proof.Machine.execSET_0_D s
  | .set_0_E => Sys2Proof.Machine.execSET_0_E s
  | .set_0_H => Sys2Proof.Machine.execSET_0_H s
  | .set_0_L => Sys2Proof.Machine.execSET_0_L s
  | .set_0_mHL => Sys2Proof.Machine.execSET_0_mHL s
  | .set_0_A => Sys2Proof.Machine.execSET_0_A s
  | .set_1_B => Sys2Proof.Machine.execSET_1_B s
  | .set_1_C => Sys2Proof.Machine.execSET_1_C s
  | .set_1_D => Sys2Proof.Machine.execSET_1_D s
  | .set_1_E => Sys2Proof.Machine.execSET_1_E s
  | .set_1_H => Sys2Proof.Machine.execSET_1_H s
  | .set_1_L => Sys2Proof.Machine.execSET_1_L s
  | .set_1_mHL => Sys2Proof.Machine.execSET_1_mHL s
  | .set_1_A => Sys2Proof.Machine.execSET_1_A s
  | .set_2_B => Sys2Proof.Machine.execSET_2_B s
  | .set_2_C => Sys2Proof.Machine.execSET_2_C s
  | .set_2_D => Sys2Proof.Machine.execSET_2_D s
  | .set_2_E => Sys2Proof.Machine.execSET_2_E s
  | .set_2_H => Sys2Proof.Machine.execSET_2_H s
  | .set_2_L => Sys2Proof.Machine.execSET_2_L s
  | .set_2_mHL => Sys2Proof.Machine.execSET_2_mHL s
  | .set_2_A => Sys2Proof.Machine.execSET_2_A s
  | .set_3_B => Sys2Proof.Machine.execSET_3_B s
  | .set_3_C => Sys2Proof.Machine.execSET_3_C s
  | .set_3_D => Sys2Proof.Machine.execSET_3_D s
  | .set_3_E => Sys2Proof.Machine.execSET_3_E s
  | .set_3_H => Sys2Proof.Machine.execSET_3_H s
  | .set_3_L => Sys2Proof.Machine.execSET_3_L s
  | .set_3_mHL => Sys2Proof.Machine.execSET_3_mHL s
  | .set_3_A => Sys2Proof.Machine.execSET_3_A s
  | .set_4_B => Sys2Proof.Machine.execSET_4_B s
  | .set_4_C => Sys2Proof.Machine.execSET_4_C s
  | .set_4_D => Sys2Proof.Machine.execSET_4_D s
  | .set_4_E => Sys2Proof.Machine.execSET_4_E s
  | .set_4_H => Sys2Proof.Machine.execSET_4_H s
  | .set_4_L => Sys2Proof.Machine.execSET_4_L s
  | .set_4_mHL => Sys2Proof.Machine.execSET_4_mHL s
  | .set_4_A => Sys2Proof.Machine.execSET_4_A s
  | .set_5_B => Sys2Proof.Machine.execSET_5_B s
  | .set_5_C => Sys2Proof.Machine.execSET_5_C s
  | .set_5_D => Sys2Proof.Machine.execSET_5_D s
  | .set_5_E => Sys2Proof.Machine.execSET_5_E s
  | .set_5_H => Sys2Proof.Machine.execSET_5_H s
  | .set_5_L => Sys2Proof.Machine.execSET_5_L s
  | .set_5_mHL => Sys2Proof.Machine.execSET_5_mHL s
  | .set_5_A => Sys2Proof.Machine.execSET_5_A s
  | .set_6_B => Sys2Proof.Machine.execSET_6_B s
  | .set_6_C => Sys2Proof.Machine.execSET_6_C s
  | .set_6_D => Sys2Proof.Machine.execSET_6_D s
  | .set_6_E => Sys2Proof.Machine.execSET_6_E s
  | .set_6_H => Sys2Proof.Machine.execSET_6_H s
  | .set_6_L => Sys2Proof.Machine.execSET_6_L s
  | .set_6_mHL => Sys2Proof.Machine.execSET_6_mHL s
  | .set_6_A => Sys2Proof.Machine.execSET_6_A s
  | .set_7_B => Sys2Proof.Machine.execSET_7_B s
  | .set_7_C => Sys2Proof.Machine.execSET_7_C s
  | .set_7_D => Sys2Proof.Machine.execSET_7_D s
  | .set_7_E => Sys2Proof.Machine.execSET_7_E s
  | .set_7_H => Sys2Proof.Machine.execSET_7_H s
  | .set_7_L => Sys2Proof.Machine.execSET_7_L s
  | .set_7_mHL => Sys2Proof.Machine.execSET_7_mHL s
  | .set_7_A => Sys2Proof.Machine.execSET_7_A s

end Sys2Proof.Machine
end

