-- ==== Sys2Proof/Machine/Step.lean ====
section
/-! DEFINITION. One step (spec/40_cycle.md R68 to R75): begin it, then dispatch what was decoded. -/

namespace Sys2Proof.Machine

/-- One call of `execute(engine)` (R68), the machine's one entry point. The outcome it returns is `lastOutcome` of the next
state. -/
def step (s : State) : Host.Outcome State Fault Refusal :=
  match beginStep s with
  | .ended t => .next t
  | .dispatch i t => exec i t

/-- The state with an instruction, as the opcode table numbers its bits, where the next step fetches it (log entry 10). -/
def State.withFetchWord (s : State) (nbits w : Nat) : State := s.placed (tableBytes nbits w)

end Sys2Proof.Machine
end

