-- ==== Sys2Proof/Safety.lean ====
section
/-! DEFINITION. The terms in which claims about the machine are stated: what an operation may touch (the tables of
spec/10_state.md R16, spec/40_cycle.md R76, spec/95_test_vectors.md), the points at which other agents act, the coherence of
the bus's total order (spec/20_memory.md R35, R48), and the invariant of the machine. -/

namespace Sys2Proof.Machine

/-! ## The other agents -/

/-- The state after the next `n` points at which other agents can act, the engine doing nothing. -/
def State.admits (s : State) : Nat → State
  | 0 => s
  | n + 1 => s.admitOne.admits n

/-- The bus is whole at each of the next `n` engine accesses. A broken bus stays broken (R53), so the last of them decides. -/
def State.BusUp (s : State) (n : Nat) : Prop := n = 0 ∨ (s.admits n).busBroken = false

/-- The bus is broken at one of the next `n` engine accesses. -/
def State.BusDown (s : State) (n : Nat) : Prop := n ≠ 0 ∧ (s.admits n).busBroken = true

/-- Reading the source `src` of an accumulator operation in `s` yields the byte `v` and leaves the state `t` (R80): a register
and an immediate make no bus access; (HL) is one read, which must find the bus whole. -/
def State.Gives (s : State) (src : Source8) (v : Byte) (t : State) : Prop :=
  match src with
  | .reg r => v = s.reg r ∧ t = s
  | .imm n => v = n ∧ t = s
  | .mHL => s.BusUp 1 ∧ v = s.valueAt s.hl ∧ t = s.afterRead s.hl

/-- The next `k` engine accesses find the bus whole and the one after them finds it broken. -/
def State.BreaksAt (s : State) (k : Nat) : Prop := s.BusUp k ∧ (s.admits (k + 1)).busBroken = true

/-- The accesses of the engine in a record of bus events, newest first. -/
def engineAccesses (log : List BusEvent) : List (Access × Addr) :=
  (log.filter fun e => e.agent == .engine).map fun e => (e.access, e.addr)

/-- The instruction `i`, whose execute phase on `s` makes the accesses `plan`, ends in `ResourceFault` at the first of them
that finds the bus broken, with its address and its opcode, and the engine is Faulted. That access and the
later ones were not made (R53, R171). That those before it stand in the record as made is the model's choice, since R171 leaves
open whether they took effect (log entry 18). Of registers, flags and bus contents nothing is said. -/
def FaultsWhereBroken (i : Instr) (s : State) (plan : List (Access × Addr)) : Prop :=
  ∀ k, k < plan.length → s.BreaksAt k → ∃ t, exec i s = .next t ∧
    t.runState = .faulted (.resourceFault (s.pc - BitVec.ofNat 16 i.length) (some i.opcode)) ∧
    t.lastOutcome = some (.faulted (.resourceFault (s.pc - BitVec.ofNat 16 i.length) (some i.opcode))) ∧
    engineAccesses t.busLog = (plan.take k).reverse ++ engineAccesses s.busLog

/-- The step called `k` times, stopping where it does not answer a next state. -/
def steps : Nat → State → Result
  | 0, s => .next s
  | k + 1, s =>
    match step s with
    | .next t => steps k t
    | .fault r => .fault r
    | .refused r => .refused r

/-- No other agent is about to act and the bus is whole. -/
def State.Quiet (s : State) : Prop := s.schedule = [] ∧ s.busBroken = false

/-- The events of a batch that only look at the bus. -/
def ExtEvent.isRead : ExtEvent → Bool
  | .rendererRead _ => true
  | .hostRead _ => true
  | .rendererWrite _ _ => false
  | .hostWrite _ _ => false
  | .requestStop => false
  | .clearStop => false
  | .breakBus => false

/-- The state without the record of bus events and without the reads other agents are about to make. -/
def State.unobserved (s : State) : State :=
  { s with busLog := [], schedule := s.schedule.map fun batch => batch.filter fun e => !e.isRead }

/-- The two writes of a push (R40, R127). -/
def State.pushAccesses (s : State) : List (Access × Addr) := [(.write, s.sp - 1), (.write, s.sp - 2)]

/-- The two reads of a pop (R40, R128). -/
def State.popAccesses (s : State) : List (Access × Addr) := [(.read, s.sp), (.read, s.sp + 1)]

end Sys2Proof.Machine

namespace Sys2Proof

open Machine

/-! ## What an operation may touch -/

/-- The prefix byte read with its sub-opcode is the CB instruction of that sub-opcode (R167). -/
def Operation.resolve (op : Operation) : Operation :=
  match op with
  | .prefixCb sub => decodeCb sub
  | .nop | .ldRegReg _ _ | .ldRegImm _ _ | .ldRegMHL _ | .ldMHLReg _ | .ldMHLImm _ | .ldAccInd _ | .ldIndAcc _
  | .ldAbsAcc _ | .ldAccAbs _ | .ldhAbsAcc _ | .ldhAccAbs _ | .ldPortAcc | .ldAccPort | .ldWideImm _ _
  | .ldAbsSp _ | .ldSpHl | .ldHlSp _ | .addHl _ | .incWide _ | .decWide _ | .addSp _ | .alu _ _ | .inc _
  | .dec _ | .accRot _ | .daa | .cpl | .scf | .ccf | .push _ | .pop _ | .jp _ | .jpIf _ _ | .jpHl | .jr _
  | .jrIf _ _ | .call _ | .callIf _ _ | .ret | .retIf _ | .rst _ | .rot _ _ | .bit _ _ | .res _ _ | .set _ _
  | .halt | .stop _ | .di | .ei | .reti | .illegal _ => op

/-- What an instruction does to a flag, in the notation of the opcode table's `flags` column (R76): `-`, `0`, `1`, `*`; and
the H of AND, which the parameter AND_SETS_H gives (R87). -/
inductive FlagEffect where
  | kept | cleared | set | computed | andSetsH
deriving DecidableEq, Repr

/-- A flag went from `before` to `after` as the effect allows. -/
def FlagEffect.Allows (andSetsH before after : Bool) : FlagEffect → Prop
  | .kept => after = before
  | .cleared => after = false
  | .set => after = true
  | .computed => True
  | .andSetsH => after = andSetsH

/-- One row of the `flags` column. -/
structure FlagEffects where
  z : FlagEffect
  n : FlagEffect
  h : FlagEffect
  c : FlagEffect
deriving DecidableEq, Repr

/-- The `flags` column of an accumulator operation (R83 to R90). -/
def AluOp.flagEffects : AluOp → FlagEffects
  | .add | .adc => ⟨.computed, .cleared, .computed, .computed⟩
  | .sub | .sbc | .cp => ⟨.computed, .set, .computed, .computed⟩
  | .and => ⟨.computed, .cleared, .andSetsH, .cleared⟩
  | .xor | .or => ⟨.computed, .cleared, .cleared, .cleared⟩

/-- The `flags` column of a CB rotate or shift (R149 to R156). -/
def RotOp.flagEffects : RotOp → FlagEffects
  | .rlc | .rrc | .rl | .rr | .sla | .sra | .srl => ⟨.computed, .cleared, .cleared, .computed⟩
  | .swap => ⟨.computed, .cleared, .cleared, .cleared⟩

/-- The `flags` column of a POP: POP AF writes all four, from the byte it reads (R130, R131). -/
def Pair.popFlagEffects : Pair → FlagEffects
  | .bc | .de | .hl => ⟨.kept, .kept, .kept, .kept⟩
  | .af => ⟨.computed, .computed, .computed, .computed⟩

/-- The `flags` column of the opcode table (R76), by operation. A prefixed instruction is looked up resolved. -/
def Operation.flagEffects : Operation → FlagEffects
  | .alu k _ => k.flagEffects
  | .inc _ => ⟨.computed, .cleared, .computed, .kept⟩
  | .dec _ => ⟨.computed, .set, .computed, .kept⟩
  | .accRot _ => ⟨.cleared, .cleared, .cleared, .computed⟩
  | .daa => ⟨.computed, .kept, .cleared, .computed⟩
  | .cpl => ⟨.kept, .set, .set, .kept⟩
  | .scf => ⟨.kept, .cleared, .cleared, .set⟩
  | .ccf => ⟨.kept, .cleared, .cleared, .computed⟩
  | .addHl _ => ⟨.kept, .cleared, .computed, .computed⟩
  | .addSp _ | .ldHlSp _ => ⟨.cleared, .cleared, .computed, .computed⟩
  | .rot k _ => k.flagEffects
  | .bit _ _ => ⟨.computed, .cleared, .set, .kept⟩
  | .pop p => p.popFlagEffects
  | .nop | .ldRegReg _ _ | .ldRegImm _ _ | .ldRegMHL _ | .ldMHLReg _ | .ldMHLImm _ | .ldAccInd _ | .ldIndAcc _
  | .ldAbsAcc _ | .ldAccAbs _ | .ldhAbsAcc _ | .ldhAccAbs _ | .ldPortAcc | .ldAccPort | .ldWideImm _ _
  | .ldAbsSp _ | .ldSpHl | .incWide _ | .decWide _ | .push _ | .jp _ | .jpIf _ _ | .jpHl | .jr _ | .jrIf _ _
  | .call _ | .callIf _ _ | .ret | .retIf _ | .rst _ | .res _ _ | .set _ _ | .halt | .stop _ | .di | .ei | .reti
  | .illegal _ | .prefixCb _ => ⟨.kept, .kept, .kept, .kept⟩

/-- The two registers of a pair that are general registers (R20). -/
def Pair.halves : Pair → List Reg8
  | .af => [.a]
  | .bc => [.b, .c]
  | .de => [.d, .e]
  | .hl => [.h, .l]

/-- The general registers a 16-bit register is made of. -/
def Wide.halves : Wide → List Reg8
  | .bc => [.b, .c]
  | .de => [.d, .e]
  | .hl => [.h, .l]
  | .sp => []

/-- The register an operand form is, if it is one. -/
def Operand8.registers : Operand8 → List Reg8
  | .reg r => [r]
  | .mHL => []

/-- The registers an indirect operand writes beside the access: HL for (HL+) and (HL-). -/
def Indirect.registers : Indirect → List Reg8
  | .bc => []
  | .de => []
  | .hlInc => [.h, .l]
  | .hlDec => [.h, .l]

/-- The register an accumulator operation writes: A, but for CP, which writes none (R90). -/
def AluOp.registers : AluOp → List Reg8
  | .add | .adc | .sub | .sbc | .and | .xor | .or => [.a]
  | .cp => []

/-- The general registers an operation may write (R16): its destination, and HL where its addressing form steps HL. A
prefixed instruction is looked up resolved. -/
def Operation.registers : Operation → List Reg8
  | .ldRegReg dst _ | .ldRegImm dst _ | .ldRegMHL dst => [dst]
  | .ldAccInd p => .a :: p.registers
  | .ldIndAcc p => p.registers
  | .ldAccAbs _ | .ldhAccAbs _ | .ldAccPort => [.a]
  | .ldWideImm p _ | .incWide p | .decWide p => p.halves
  | .ldHlSp _ | .addHl _ => [.h, .l]
  | .alu k _ => k.registers
  | .inc o | .dec o | .rot _ o | .res _ o | .set _ o => o.registers
  | .accRot _ | .daa | .cpl => [.a]
  | .pop p => p.halves
  | .nop | .ldMHLReg _ | .ldMHLImm _ | .ldAbsAcc _ | .ldhAbsAcc _ | .ldPortAcc | .ldAbsSp _ | .ldSpHl | .addSp _
  | .scf | .ccf | .push _ | .jp _ | .jpIf _ _ | .jpHl | .jr _ | .jrIf _ _ | .call _ | .callIf _ _ | .ret
  | .retIf _ | .rst _ | .bit _ _ | .halt | .stop _ | .di | .ei | .reti | .illegal _ | .prefixCb _ => []

/-- The 16-bit register is SP. -/
def Wide.isSp : Wide → Bool
  | .bc | .de | .hl => false
  | .sp => true

/-- The operation writes SP (R16). -/
def Operation.writesSp : Operation → Bool
  | .ldWideImm p _ | .incWide p | .decWide p => p.isSp
  | .ldSpHl | .addSp _ | .push _ | .pop _ | .call _ | .callIf _ _ | .ret | .retIf _ | .rst _ => true
  | .nop | .ldRegReg _ _ | .ldRegImm _ _ | .ldRegMHL _ | .ldMHLReg _ | .ldMHLImm _ | .ldAccInd _ | .ldIndAcc _
  | .ldAbsAcc _ | .ldAccAbs _ | .ldhAbsAcc _ | .ldhAccAbs _ | .ldPortAcc | .ldAccPort | .ldAbsSp _ | .ldHlSp _
  | .addHl _ | .alu _ _ | .inc _ | .dec _ | .accRot _ | .daa | .cpl | .scf | .ccf | .jp _ | .jpIf _ _ | .jpHl
  | .jr _ | .jrIf _ _ | .rot _ _ | .bit _ _ | .res _ _ | .set _ _ | .halt | .stop _ | .di | .ei | .reti
  | .illegal _ | .prefixCb _ => false

/-- The operation may write PC in its execute phase (R16, R74). -/
def Operation.writesPc : Operation → Bool
  | .jp _ | .jpIf _ _ | .jpHl | .jr _ | .jrIf _ _ | .call _ | .callIf _ _ | .ret | .retIf _ | .rst _ => true
  | .nop | .ldRegReg _ _ | .ldRegImm _ _ | .ldRegMHL _ | .ldMHLReg _ | .ldMHLImm _ | .ldAccInd _ | .ldIndAcc _
  | .ldAbsAcc _ | .ldAccAbs _ | .ldhAbsAcc _ | .ldhAccAbs _ | .ldPortAcc | .ldAccPort | .ldWideImm _ _
  | .ldAbsSp _ | .ldSpHl | .ldHlSp _ | .addHl _ | .incWide _ | .decWide _ | .addSp _ | .alu _ _ | .inc _
  | .dec _ | .accRot _ | .daa | .cpl | .scf | .ccf | .push _ | .pop _ | .rot _ _ | .bit _ _ | .res _ _
  | .set _ _ | .halt | .stop _ | .di | .ei | .reti | .illegal _ | .prefixCb _ => false

/-- The accesses of a read-modify-write form: none on a register; on (HL), a read and a later write (R43, R148). -/
def Operand8.modifyAccesses (o : Operand8) (s : Machine.State) : List (Access × Addr) :=
  match o with
  | .reg _ => []
  | .mHL => [(.read, s.hl), (.write, s.hl)]

/-- The accesses of a form that only reads its operand (R80, R157). -/
def Operand8.readAccesses (o : Operand8) (s : Machine.State) : List (Access × Addr) :=
  match o with
  | .reg _ => []
  | .mHL => [(.read, s.hl)]

/-- The accesses of an accumulator operation's source (R80). -/
def Source8.accesses (o : Source8) (s : Machine.State) : List (Access × Addr) :=
  match o with
  | .reg _ | .imm _ => []
  | .mHL => [(.read, s.hl)]

/-- The engine's bus accesses in the execute phase of an operation dispatched on `s`, in order. A prefixed instruction is
looked up resolved. -/
def Operation.accesses (op : Operation) (s : Machine.State) : List (Access × Addr) :=
  match op with
  | .ldRegMHL _ => [(.read, s.hl)]
  | .ldMHLReg _ | .ldMHLImm _ => [(.write, s.hl)]
  | .ldAccInd p => [(.read, s.indirectAddr p)]
  | .ldIndAcc p => [(.write, s.indirectAddr p)]
  | .ldAbsAcc a => [(.write, a)]
  | .ldAccAbs a => [(.read, a)]
  | .ldhAbsAcc a => [(.write, pageAddr a)]
  | .ldhAccAbs a => [(.read, pageAddr a)]
  | .ldPortAcc => [(.write, pageAddr s.regs.c)]
  | .ldAccPort => [(.read, pageAddr s.regs.c)]
  | .ldAbsSp a => [(.write, a), (.write, a + 1)]
  | .alu _ src => src.accesses s
  | .inc o | .dec o | .rot _ o | .res _ o | .set _ o => o.modifyAccesses s
  | .bit _ o => o.readAccesses s
  | .push _ | .call _ | .rst _ => s.pushAccesses
  | .callIf cc _ => if s.cond cc then s.pushAccesses else []
  | .pop _ | .ret => s.popAccesses
  | .retIf cc => if s.cond cc then s.popAccesses else []
  | .nop | .ldRegReg _ _ | .ldRegImm _ _ | .ldWideImm _ _ | .ldSpHl | .ldHlSp _ | .addHl _ | .incWide _
  | .decWide _ | .addSp _ | .accRot _ | .daa | .cpl | .scf | .ccf | .jp _ | .jpIf _ _ | .jpHl | .jr _
  | .jrIf _ _ | .halt | .stop _ | .di | .ei | .reti | .illegal _ | .prefixCb _ => []

/-- The operation is wired: its meaning is an effect, not an error outcome (R63, R75). -/
def Operation.wired : Operation → Bool
  | .halt | .stop _ | .di | .ei | .reti | .illegal _ => false
  | .nop | .ldRegReg _ _ | .ldRegImm _ _ | .ldRegMHL _ | .ldMHLReg _ | .ldMHLImm _ | .ldAccInd _ | .ldIndAcc _
  | .ldAbsAcc _ | .ldAccAbs _ | .ldhAbsAcc _ | .ldhAccAbs _ | .ldPortAcc | .ldAccPort | .ldWideImm _ _
  | .ldAbsSp _ | .ldSpHl | .ldHlSp _ | .addHl _ | .incWide _ | .decWide _ | .addSp _ | .alu _ _ | .inc _
  | .dec _ | .accRot _ | .daa | .cpl | .scf | .ccf | .push _ | .pop _ | .jp _ | .jpIf _ _ | .jpHl | .jr _
  | .jrIf _ _ | .call _ | .callIf _ _ | .ret | .retIf _ | .rst _ | .rot _ _ | .bit _ _ | .res _ _ | .set _ _
  | .prefixCb _ => true

/-- The addresses an operation dispatched on `s` stores to. -/
def Operation.stores (op : Operation) (s : Machine.State) : List Addr :=
  ((op.accesses s).filter fun x => x.1 == .write).map Prod.snd

/-! ## Encoded fields (R56 to R58), for statements about encodings -/

/-- The opcode byte, or CB sub-opcode, with fields x, y, z (R56). -/
def opcodeByte (x y z : Nat) : Byte := BitVec.ofNat 8 (64 * x + 8 * y + z)

/-- The value of the register field (R57). -/
def Reg8.field : Reg8 → Nat
  | .b => 0
  | .c => 1
  | .d => 2
  | .e => 3
  | .h => 4
  | .l => 5
  | .a => 7

/-- The value of the register field, (HL) included (R57). -/
def Operand8.field : Operand8 → Nat
  | .reg r => r.field
  | .mHL => 6

/-- The value of the `rr` field (R58). -/
def Wide.field : Wide → Nat
  | .bc => 0
  | .de => 1
  | .hl => 2
  | .sp => 3

/-- The value of the `rr2` field (R58). -/
def Pair.field : Pair → Nat
  | .bc => 0
  | .de => 1
  | .hl => 2
  | .af => 3

/-- The value of the indirect field (R58). -/
def Indirect.field : Indirect → Nat
  | .bc => 0
  | .de => 1
  | .hlInc => 2
  | .hlDec => 3

/-- The value of the condition field (R58). -/
def Cond.field : Cond → Nat
  | .nz => 0
  | .z => 1
  | .nc => 2
  | .c => 3

/-- The y field of an accumulator operation (R61). -/
def AluOp.field : AluOp → Nat
  | .add => 0
  | .adc => 1
  | .sub => 2
  | .sbc => 3
  | .and => 4
  | .xor => 5
  | .or => 6
  | .cp => 7

/-- The y field of a CB rotate or shift (R61). -/
def RotOp.field : RotOp → Nat
  | .rlc => 0
  | .rrc => 1
  | .rl => 2
  | .rr => 3
  | .sla => 4
  | .sra => 5
  | .swap => 6
  | .srl => 7

end Sys2Proof

namespace Sys2Proof.Machine

/-! ## Coherence of the bus (R35, R48) -/

/-- The value of `a` after the events of a record, newest first: its latest write, or what the bus held at the start. -/
def latest (base : Memory) : List BusEvent → Addr → Byte
  | [], a => base.read a
  | e :: older, a => if e.access = .write ∧ e.addr = a then e.value else latest base older a

/-- Every read in the record got the latest write before it. -/
def ReadsLatest (base : Memory) : List BusEvent → Prop
  | [] => True
  | e :: older => (e.access = .read → e.value = latest base older e.addr) ∧ ReadsLatest base older

/-- The engine is Faulted with a ResourceFault, after which nothing is said of the bus (R171). -/
def State.ResourceFaulted (s : State) : Prop := ∃ a op, s.runState = .faulted (.resourceFault a op)

/-- The bus is pure shared storage in one total order: it holds the latest write to each address, and each read in the record
got the latest write before it (R35, R48). -/
def State.Coherent (base : Memory) (s : State) : Prop :=
  s.ResourceFaulted ∨ ((∀ a, s.mem.read a = latest base s.busLog a) ∧ ReadsLatest base s.busLog)

/-! ## The invariant -/

/-- Addresses rise from `low` upward and stay inside the address space, and no cell holds what an unlisted address reads as. -/
def Memory.risesFrom : Memory → Nat → Bool
  | [], _ => true
  | (k, v) :: rest, low => decide (low ≤ k) && decide (k < 0x10000) && v != Memory.unlisted && Memory.risesFrom rest (k + 1)

/-- The canonical form of the storage: equal memories are equal data. -/
def Memory.wf (m : Memory) : Bool := m.risesFrom 0

/-- The opcode bytes with no table entry (R62). -/
def holeOpcodes : List Byte := [0xD3, 0xDB, 0xDD, 0xE3, 0xE4, 0xEB, 0xEC, 0xED, 0xF4, 0xFC, 0xFD]

/-- The unwired opcode bytes (R63). -/
def unwiredOpcodes : List Byte := [0x10, 0x76, 0xD9, 0xF3, 0xFB]

/-- What holds of the machine in every state a run reaches. -/
structure State.Inv (s : State) : Prop where
  /-- The storage is in canonical form. -/
  memory : s.mem.wf = true
  /-- The engine is Faulted exactly while the outcome it returned last is a terminal one (R70). -/
  reported : ∀ t, s.runState = .faulted t ↔ s.lastOutcome = some (.faulted t)
  /-- A ResourceFault comes from a broken bus only (R168). -/
  resource : ∀ a op, s.runState = .faulted (.resourceFault a op) → s.busBroken = true
  /-- A Fatal comes from one of the eleven sentinels only (R168). -/
  fatal : ∀ op a, s.runState = .faulted (.fatal op a) → op ∈ holeOpcodes
  /-- An Unimplemented comes from one of the five unwired opcodes only (R168). -/
  unwired : ∀ op, s.lastOutcome = some (.unimplemented op) → op ∈ unwiredOpcodes
  /-- Before the first step the engine has made no bus access (R184). -/
  construction : s.started = false → engineAccesses s.busLog = []
  /-- Only an engine that has started can be Faulted. -/
  startedFirst : ∀ t, s.runState = .faulted t → s.started = true

end Sys2Proof.Machine
end

