-- ==== Sys2Proof/Certificates/Slice0/Obligations.lean ====
section
/-! DEFINITION. The statements for the provers. An instruction is dispatched (`exec`) on a state whose PC is already past it
(spec/40_cycle.md R74). Where an instruction makes bus accesses, `s.BusUp n` says that the bus is whole at its n accesses, and
`s.valueAt`, `s.afterRead`, `s.afterWrite` are an access with whatever other agents do just before it; with no such agent
acting (`s.schedule = []`) they are a plain read and a plain write. R47 lets other agents act at any such point; that what they
do is a schedule with one batch for each point is the model's choice throughout (log entry 7). -/

open Sys2Proof Sys2Proof.Machine

/-! ## Flags codec and register pairs -/

/-- R24, R25: the packed form of the flags, and what a byte unpacks to. -/
def Obligations.FlagByteLayout : Prop :=
  (∀ f : Flags, f.toByte.toNat = 128 * b2i f.z + 64 * b2i f.n + 32 * b2i f.h + 16 * b2i f.c ∧ f.toByte &&& 0x0F = 0) ∧
  (∀ b : Byte, Flags.ofByte b =
    { z := decide (b.toNat / 128 % 2 = 1), n := decide (b.toNat / 64 % 2 = 1)
      h := decide (b.toNat / 32 % 2 = 1), c := decide (b.toNat / 16 % 2 = 1) })

/-- R26: the two round trips of the codec and the builder property, in either order of setting the flags. -/
def Obligations.FlagCodecLaws : Prop :=
  (∀ b : Byte, b &&& 0x0F = 0 → (Flags.ofByte b).toByte = b) ∧
  (∀ f : Flags, Flags.ofByte f.toByte = f) ∧
  (∀ z n h c : Bool,
    ((((Flags.none.withZ z).withN n).withH h).withC c).toByte = (Flags.mk z n h c).toByte ∧
    ((((Flags.none.withC c).withH h).withN n).withZ z).toByte = (Flags.mk z n h c).toByte)

/-- R20: the first-named register of a pair is its low byte; the consequence the rule gives for H = 0xC0, L = 0x00. With it, what
the ways to read a register name: `reg` each register, `hl` the pair HL, `wide` the pairs BC, DE, HL and SP. -/
def Obligations.PairPacking : Prop :=
  (∀ s : State,
    (s.pair .af).toNat = 256 * s.flags.toByte.toNat + s.regs.a.toNat ∧
    (s.pair .bc).toNat = 256 * s.regs.c.toNat + s.regs.b.toNat ∧
    (s.pair .de).toNat = 256 * s.regs.e.toNat + s.regs.d.toNat ∧
    (s.pair .hl).toNat = 256 * s.regs.l.toNat + s.regs.h.toNat) ∧
  (∀ s : State, ((s.setReg .h 0xC0).setReg .l 0x00).pair .hl = 0x00C0) ∧
  (∀ s : State,
    s.reg .a = s.regs.a ∧ s.reg .b = s.regs.b ∧ s.reg .c = s.regs.c ∧ s.reg .d = s.regs.d ∧
    s.reg .e = s.regs.e ∧ s.reg .h = s.regs.h ∧ s.reg .l = s.regs.l) ∧
  (∀ s : State,
    s.hl = s.pair .hl ∧
    s.wide .bc = s.pair .bc ∧ s.wide .de = s.pair .de ∧ s.wide .hl = s.pair .hl ∧ s.wide .sp = s.sp)

/-- R21, R22: a pair write sets the low register to v[7:0] and the high one to v[15:8] and nothing else; the round trip holds
for BC, DE and HL always, and for AF exactly when v[11:8] = 0, since F keeps bits 7 to 4 only. With it, what the ways to write a
register change: `put` the one register it names, `setWide` the pair BC, DE or HL, or SP. -/
def Obligations.PairWrites : Prop :=
  (∀ (s : State) (v : Addr),
    s.setPair .bc v = { s with regs := { s.regs with b := lowByte v, c := highByte v } } ∧
    s.setPair .de v = { s with regs := { s.regs with d := lowByte v, e := highByte v } } ∧
    s.setPair .hl v = { s with regs := { s.regs with h := lowByte v, l := highByte v } } ∧
    s.setPair .af v = { s with regs := { s.regs with a := lowByte v }, flags := Flags.ofByte (highByte v) }) ∧
  (∀ (s : State) (p : Pair) (v : Addr), p ≠ .af → (s.setPair p v).pair p = v) ∧
  (∀ (s : State) (v : Addr), (s.setPair .af v).pair .af = v &&& 0xF0FF) ∧
  (∀ (s : State) (v : Addr), (s.setPair .af v).pair .af = v ↔ v.toNat / 256 % 16 = 0) ∧
  (∀ (g : Regs) (v : Byte),
    g.put .a v = { g with a := v } ∧ g.put .b v = { g with b := v } ∧ g.put .c v = { g with c := v } ∧
    g.put .d v = { g with d := v } ∧ g.put .e v = { g with e := v } ∧ g.put .h v = { g with h := v } ∧
    g.put .l v = { g with l := v }) ∧
  (∀ (s : State) (v : Addr),
    s.setWide .bc v = s.setPair .bc v ∧ s.setWide .de v = s.setPair .de v ∧ s.setWide .hl v = s.setPair .hl v ∧
    s.setWide .sp v = { s with sp := v })

/-! ## Construction -/

/-- R32, R184: the state after construction, for every SP_INIT, INIT_MEM, image and choice of parameters; the pairs R32
derives. -/
def Obligations.ConstructionState : Prop :=
  ∀ (c : Construction) (s : State), construct c = some s →
    s.regs = { a := 0x01, b := 0x00, c := 0x13, d := 0x00, e := 0xD8, h := 0x01, l := 0x4D } ∧
    s.flags = Flags.ofByte 0xB0 ∧ s.pc = 0x0000 ∧ s.sp = c.spInit ∧ s.params = c.params ∧
    s.stopRequested = false ∧ s.runState = .running ∧ s.busBroken = false ∧ s.started = false ∧
    s.pair .af = 0xB001 ∧ s.pair .bc = 0x1300 ∧ s.pair .de = 0xD800 ∧ s.pair .hl = 0x4D01

/-- The model's reset state is one of the constructions, the one of log entries 1, 2 and 4 (SP_INIT = 0, nothing listed, no
image): the model's choice, since the spec leaves SP_INIT and INIT_MEM open. -/
def Obligations.ResetIsAConstruction : Prop :=
  construct { spInit := 0, initMem := [], image := [], params := Params.default } = some State.reset

/-- R185: an image of n ≤ 0x10000 bytes is copied to the bus from address 0, every other byte stays at INIT_MEM, and a longer
image is refused. R184: INIT_MEM is given as cells; the first cell for an address gives its byte, and an address in none of them
reads as an unlisted one does (log entry 2). -/
def Obligations.ProgramImage : Prop :=
  (∀ c : Construction, (construct c).isSome = decide (c.image.length ≤ 0x10000)) ∧
  (∀ (c : Construction) (s : State), construct c = some s →
    (∀ (i : Nat) (h : i < c.image.length), s.mem.read (BitVec.ofNat 16 i) = c.image[i]) ∧
    (∀ a : Addr, c.image.length ≤ a.toNat → s.mem.read a = (Memory.ofCells c.initMem).read a)) ∧
  (∀ (cells : List (Addr × Byte)) (a : Addr), (Memory.ofCells cells).read a =
    match cells.find? fun cell => cell.1 == a with
    | some cell => cell.2
    | none => Memory.unlisted)

/-- R186: the host may set PC and SP before the first step, to any value and changing nothing else, and not after it; every step
that runs an instruction, or tries to fetch one, is a start. -/
def Obligations.HostSetsRegistersOnlyBeforeTheFirstStep : Prop :=
  (∀ (s : State) (v : Addr), s.started = false →
    s.hostSetPc v = some { s with pc := v } ∧ s.hostSetSp v = some { s with sp := v }) ∧
  (∀ (s : State) (v : Addr), s.started = true → s.hostSetPc v = none ∧ s.hostSetSp v = none) ∧
  (∀ s : State, s.runState = .running → s.admitOne.stopRequested = false →
    ∃ t, step s = .next t ∧ t.started = true)

/-! ## The bus -/

/-- The storage (R35, R36): a write changes the one byte it names, keeps the canonical form, and two storages in canonical form
that read alike everywhere are the same list, so equal memories are equal data. -/
def Obligations.CanonicalMemoriesAreEqualData : Prop :=
  (∀ (m : Memory) (a b : Addr) (v : Byte), (m.write a v).read b = if b = a then v else m.read b) ∧
  (∀ (m : Memory) (a : Addr) (v : Byte), m.wf = true → (m.write a v).wf = true) ∧
  (∀ m m' : Memory, m.wf = true → m'.wf = true → (∀ a, m.read a = m'.read a) → m = m')

/-- What other agents and the environment do, and what they cannot do. R45: EXT_WRITE_SET is the parameter's ranges in the page
0xFF00-0xFFFF; a renderer write inside it lands, and no renderer event changes a byte outside it. R182, R186: a host write lands
at any address. R43: a read changes nothing but the record. R172: the host sets and clears the stop signal. R53: the environment
breaks the bus, and once set that is never cleared, by an event or a step. The model's choice, not the spec's: that a renderer
event naming an address outside the set has no effect (log entry 8); that events come in batches, each in its order, one batch at
each point (log entry 7); that they land on a broken bus as on a whole one (log entry 12). -/
def Obligations.RendererWritesOnlyItsSet : Prop :=
  (∀ (p : Params) (a : Addr), rendererMayWrite p a = true ↔
    0xFF00 ≤ a.toNat ∧ ∃ r ∈ p.extWriteSet, r.1.toNat ≤ a.toNat % 256 ∧ a.toNat % 256 ≤ r.2.toNat) ∧
  (∀ (s : State) (l : List ExtEvent),
    (∀ e ∈ l, (∃ a, e = .rendererRead a) ∨ (∃ a v, e = .rendererWrite a v)) →
    ∀ a, rendererMayWrite s.params a = false → (s.applyBatch l).mem.read a = s.mem.read a) ∧
  (∀ (s : State) (a : Addr) (v : Byte),
    (rendererMayWrite s.params a = true → s.applyExt (.rendererWrite a v) =
      { s with mem := s.mem.write a v, busLog := ⟨.renderer, .write, a, v⟩ :: s.busLog }) ∧
    (rendererMayWrite s.params a = false → s.applyExt (.rendererWrite a v) = s) ∧
    s.applyExt (.hostWrite a v) = { s with mem := s.mem.write a v, busLog := ⟨.host, .write, a, v⟩ :: s.busLog } ∧
    s.applyExt (.rendererRead a) = { s with busLog := ⟨.renderer, .read, a, s.mem.read a⟩ :: s.busLog } ∧
    s.applyExt (.hostRead a) = { s with busLog := ⟨.host, .read, a, s.mem.read a⟩ :: s.busLog }) ∧
  (∀ s : State,
    s.applyExt .requestStop = { s with stopRequested := true } ∧
    s.applyExt .clearStop = { s with stopRequested := false } ∧
    s.applyExt .breakBus = { s with busBroken := true }) ∧
  (∀ (s : State) (e : ExtEvent), s.busBroken = true → (s.applyExt e).busBroken = true) ∧
  (∀ s t : State, s.busBroken = true → step s = .next t → t.busBroken = true) ∧
  (∀ (s : State) (l : List ExtEvent), s.applyBatch l = l.foldl State.applyExt s) ∧
  (∀ s : State, s.schedule = [] → s.admitOne = s) ∧
  (∀ (s : State) (l : List ExtEvent) (rest : List (List ExtEvent)), s.schedule = l :: rest →
    s.admitOne = { s with schedule := rest }.applyBatch l)

/-! ## The step -/

/-- R70: a Faulted engine returns its outcome again and changes no state of its own (other agents may have acted since the last
step). -/
def Obligations.FaultedEngineReturnsItsOutcome : Prop :=
  ∀ (s : State) (o : Terminal), s.runState = .faulted o →
    step s = .next { s.admitOne with lastOutcome := some (.faulted o) }

/-- R69, R172, R174: the stop signal is checked before any bus access, after the Faulted state; a step that finds it set returns
Stopped and changes no state of its own. In a first step that is so of `started` too: the model's choice (log entry 11) between
R69 and R172, by which such a step changes no state, and R184, by which the first step sets `started`. -/
def Obligations.StopSignalEndsTheStep : Prop :=
  ∀ s : State, s.runState = .running → s.admitOne.stopRequested = true →
    step s = .next { s.admitOne with lastOutcome := some .stopped }

/-- A step runs the decoded instruction, in general form: where the fetch answers a descriptor, the step is `exec` of its
instruction on the state after the fetch with PC past the instruction (R71 to R75). -/
def Obligations.StepDispatchesWhatItFetched : Prop :=
  ∀ (s t : State) (d : Descriptor), s.runState = .running → s.admitOne.stopRequested = false →
    fetch { s.admitOne with started := true } = .ok d t →
    step s = exec d.instr { t with pc := s.pc + 1 + BitVec.ofNat 16 d.extra } ∧ t.pc = s.pc

/-- A step runs the decoded instruction, from the bytes: when no other agent acts and the bytes at PC decode to `i`, the step is
`exec i` on the same state with `started` set, PC past the instruction, and one engine read of each of its bytes, in increasing
address order, added to the record (R71 to R75, R189). -/
def Obligations.StepRunsTheBytesAtPc : Prop :=
  ∀ (s : State) (i : Instr) (rest : List Byte), s.Quiet → s.runState = .running → s.stopRequested = false →
    decode s.params.stopLen [s.mem.read s.pc, s.mem.read (s.pc + 1), s.mem.read (s.pc + 2)] = .ok (i, rest) →
    step s = exec i
      { s with
        started := true
        pc := s.pc + BitVec.ofNat 16 i.length
        busLog := ((List.range i.length).map fun k =>
          (⟨.engine, .read, s.pc + BitVec.ofNat 16 k, s.mem.read (s.pc + BitVec.ofNat 16 k)⟩ : BusEvent)).reverse ++ s.busLog }

/-- R171, R174: a fetch that finds the bus broken at the opcode read ends the step in a ResourceFault with the address of the
instruction and no opcode; one that finds it broken at a later read of the instruction's bytes reports the opcode too. -/
def Obligations.BrokenBusAtTheFetch : Prop :=
  (∀ s : State, s.runState = .running → s.admitOne.stopRequested = false → (s.admits 2).busBroken = true →
    ∃ t, step s = .next t ∧ t.runState = .faulted (.resourceFault s.pc none) ∧
      t.lastOutcome = some (.faulted (.resourceFault s.pc none))) ∧
  (∀ s : State, s.runState = .running → s.admitOne.stopRequested = false → (s.admits 2).busBroken = false →
    s.admitOne.admitOne.BusDown (extraBytes s.params.stopLen (s.admitOne.valueAt s.pc)) →
    ∃ t, step s = .next t ∧ t.runState = .faulted (.resourceFault s.pc (some (s.admitOne.valueAt s.pc))) ∧
      t.lastOutcome = some (.faulted (.resourceFault s.pc (some (s.admitOne.valueAt s.pc)))))

/-! ## Decoder and encoder -/

/-- Decoding the encoding of any well-formed instruction, with every operand at every value, gives it back and leaves the bytes
after it. -/
def Obligations.DecodeOfEncode : Prop :=
  ∀ (sl : StopLen) (i : Instr) (rest : List Byte), i.wellFormed sl = true → decode sl (encode i ++ rest) = .ok (i, rest)

/-- Whatever the decoder answers is well formed and its encoding is the bytes it was decoded from: each word has one meaning. -/
def Obligations.EncodeOfDecode : Prop :=
  ∀ (sl : StopLen) (bytes rest : List Byte) (i : Instr), decode sl bytes = .ok (i, rest) →
    i.wellFormed sl = true ∧ encode i ++ rest = bytes

/-- The decoder refuses a list of bytes only where it ends before the instruction does (R54, R72). -/
def Obligations.DecodeRefusesOnlyTruncation : Prop :=
  ∀ (sl : StopLen) (o : Byte) (rest : List Byte),
    (extraBytes sl o ≤ rest.length → ∃ i, decode sl (o :: rest) = .ok (i, rest.drop (extraBytes sl o))) ∧
    (rest.length < extraBytes sl o → decode sl (o :: rest) = .error (.truncated o (extraBytes sl o))) ∧
    extraBytes sl o ≤ 2

/-- Words written out from the spec's encodings (R61, worked examples W4 to W10) decode to the instructions they stand for. -/
def Obligations.WrittenOutWordsDecode : Prop :=
  decode .two [0x87] = .ok (.add_A_A, []) ∧
  decode .two [0xC6, 0x01] = .ok (.add_A_n8 0x01, []) ∧
  decode .two [0x90] = .ok (.sub_A_B, []) ∧
  decode .two [0xFE, 0x20] = .ok (.cp_A_n8 0x20, []) ∧
  decode .two [0xC2, 0x34, 0x12] = .ok (.jp_NZ_a16 0x1234, []) ∧
  decode .two [0x01, 0x34, 0x12] = .ok (.ld_BC_n16 0x1234, []) ∧
  decode .two [0x76] = .ok (.halt, []) ∧
  decode .two [0x10, 0x00] = .ok (.stop (some 0x00), []) ∧
  decode .two [0xD3] = .ok (.illegal_D3, []) ∧
  decode .two [0xCB, 0x7C] = .ok (.bit_7_H, []) ∧
  decode .two [0x22, 0x99] = .ok (.ld_mHLI_A, [0x99])

/-! ## 8-bit arithmetic and logic -/

/-- R81, R82: the result and the four flags of `add8` and `sub8`, in exact arithmetic. -/
def Obligations.AddAndSubtractFlags : Prop :=
  (∀ (a b : Byte) (cin : Bool),
    (add8 a b cin).out.toNat = (a.toNat + b.toNat + b2i cin) % 256 ∧
    ((add8 a b cin).flags.z = true ↔ (add8 a b cin).out = 0) ∧
    (add8 a b cin).flags.n = false ∧
    ((add8 a b cin).flags.h = true ↔ a.toNat % 16 + b.toNat % 16 + b2i cin > 15) ∧
    ((add8 a b cin).flags.c = true ↔ a.toNat + b.toNat + b2i cin > 255)) ∧
  (∀ (a b : Byte) (bin : Bool),
    (((sub8 a b bin).out.toNat : Int) = ((a.toNat : Int) - b.toNat - b2i bin) % 256) ∧
    ((sub8 a b bin).flags.z = true ↔ (sub8 a b bin).out = 0) ∧
    (sub8 a b bin).flags.n = true ∧
    ((sub8 a b bin).flags.h = true ↔ a.toNat % 16 < b.toNat % 16 + b2i bin) ∧
    ((sub8 a b bin).flags.c = true ↔ a.toNat < b.toNat + b2i bin))

/-- R80, R83 to R90, with their encodings: the two-operand accumulator operations on every source. `v` is the byte the source
gives and `t` the state after reading it. A and the four flags are written, by CP only the flags; nothing else changes. On (HL)
with a broken bus each is a ResourceFault. -/
def Obligations.AccumulatorOperations : Prop :=
  (∀ (s t : State) (src : Source8) (v : Byte), s.Gives src v t →
    exec (rowAlu .add src) s = .next { t with
      regs := { s.regs with a := (add8 s.regs.a v false).out }
      flags := (add8 s.regs.a v false).flags, lastOutcome := some .ok } ∧
    exec (rowAlu .adc src) s = .next { t with
      regs := { s.regs with a := (add8 s.regs.a v s.flags.c).out }
      flags := (add8 s.regs.a v s.flags.c).flags, lastOutcome := some .ok } ∧
    exec (rowAlu .sub src) s = .next { t with
      regs := { s.regs with a := (sub8 s.regs.a v false).out }
      flags := (sub8 s.regs.a v false).flags, lastOutcome := some .ok } ∧
    exec (rowAlu .sbc src) s = .next { t with
      regs := { s.regs with a := (sub8 s.regs.a v s.flags.c).out }
      flags := (sub8 s.regs.a v s.flags.c).flags, lastOutcome := some .ok } ∧
    exec (rowAlu .and src) s = .next { t with
      regs := { s.regs with a := s.regs.a &&& v }
      flags := { z := (s.regs.a &&& v) == 0, n := false, h := s.params.andSetsH, c := false }, lastOutcome := some .ok } ∧
    exec (rowAlu .xor src) s = .next { t with
      regs := { s.regs with a := s.regs.a ^^^ v }
      flags := { z := (s.regs.a ^^^ v) == 0, n := false, h := false, c := false }, lastOutcome := some .ok } ∧
    exec (rowAlu .or src) s = .next { t with
      regs := { s.regs with a := s.regs.a ||| v }
      flags := { z := (s.regs.a ||| v) == 0, n := false, h := false, c := false }, lastOutcome := some .ok } ∧
    exec (rowAlu .cp src) s = .next { t with
      flags := (sub8 s.regs.a v false).flags, lastOutcome := some .ok }) ∧
  (∀ (s : State) (k : AluOp), FaultsWhereBroken (rowAlu k .mHL) s [(.read, s.hl)]) ∧
  (∀ (k : AluOp) (r : Reg8) (n : Byte),
    encode (rowAlu k (.reg r)) = [opcodeByte 2 k.field r.field] ∧
    encode (rowAlu k .mHL) = [opcodeByte 2 k.field 6] ∧
    encode (rowAlu k (.imm n)) = [opcodeByte 3 k.field 6, n])

/-- R91 to R94, with their encodings: INC and DEC of a register and of the byte at (HL). C is kept. The (HL) forms read the
byte, then write it back to the same address; with the bus broken at either access they are a ResourceFault. That the record keeps the first of two accesses as made where the second
finds the bus broken is the model's choice (log entry 18). -/
def Obligations.IncrementAndDecrement : Prop :=
  (∀ (s : State) (r : Reg8),
    exec (rowInc (.reg r)) s = .next { s with
      regs := s.regs.put r (s.reg r + 1)
      flags := { z := s.reg r + 1 == 0, n := false, h := decide ((s.reg r).toNat % 16 = 15), c := s.flags.c }
      lastOutcome := some .ok } ∧
    exec (rowDec (.reg r)) s = .next { s with
      regs := s.regs.put r (s.reg r - 1)
      flags := { z := s.reg r - 1 == 0, n := true, h := decide ((s.reg r).toNat % 16 = 0), c := s.flags.c }
      lastOutcome := some .ok }) ∧
  (∀ (s : State) (v : Byte), s.BusUp 2 → v = s.valueAt s.hl →
    exec (rowInc .mHL) s = .next { (s.afterRead s.hl).afterWrite s.hl (v + 1) with
      flags := { z := v + 1 == 0, n := false, h := decide (v.toNat % 16 = 15), c := s.flags.c }
      lastOutcome := some .ok } ∧
    exec (rowDec .mHL) s = .next { (s.afterRead s.hl).afterWrite s.hl (v - 1) with
      flags := { z := v - 1 == 0, n := true, h := decide (v.toNat % 16 = 0), c := s.flags.c }
      lastOutcome := some .ok }) ∧
  (∀ s : State, FaultsWhereBroken (rowInc .mHL) s [(.read, s.hl), (.write, s.hl)] ∧
    FaultsWhereBroken (rowDec .mHL) s [(.read, s.hl), (.write, s.hl)]) ∧
  (∀ o : Operand8, encode (rowInc o) = [opcodeByte 0 o.field 4] ∧ encode (rowDec o) = [opcodeByte 0 o.field 5])

/-- R95: DAA, with its encoding. The adjustments are stated on exact integers: after an addition +0x60 and +0x06 by the two
tests of the rule, after a subtraction -0x60 and -0x06 by C and H. N is kept. -/
def Obligations.DecimalAdjust : Prop :=
  (∀ s : State, ∃ (out : Byte) (c : Bool),
    exec .daa s = .next { s with
      regs := { s.regs with a := out }
      flags := { z := out == 0, n := s.flags.n, h := false, c := c }, lastOutcome := some .ok } ∧
    (s.flags.n = false →
      (c = true ↔ s.flags.c = true ∨ s.regs.a.toNat > 0x99) ∧
      out.toNat = (s.regs.a.toNat + (if s.flags.c = true ∨ s.regs.a.toNat > 0x99 then 0x60 else 0)
        + (if s.flags.h = true ∨ s.regs.a.toNat % 16 > 9 then 0x06 else 0)) % 256) ∧
    (s.flags.n = true →
      c = s.flags.c ∧
      (out.toNat : Int) = ((s.regs.a.toNat : Int) - (if s.flags.c = true then 0x60 else 0)
        - (if s.flags.h = true then 0x06 else 0)) % 256)) ∧
  encode .daa = [0x27]

/-- R96, R97, R98, with their encodings: CPL, SCF, CCF. -/
def Obligations.ComplementAndCarryFlag : Prop :=
  (∀ s : State,
    exec .cpl s = .next { s with
      regs := { s.regs with a := s.regs.a ^^^ 0xFF }
      flags := { z := s.flags.z, n := true, h := true, c := s.flags.c }, lastOutcome := some .ok } ∧
    exec .scf s = .next { s with
      flags := { z := s.flags.z, n := false, h := false, c := true }, lastOutcome := some .ok } ∧
    exec .ccf s = .next { s with
      flags := { z := s.flags.z, n := false, h := false, c := !s.flags.c }, lastOutcome := some .ok }) ∧
  encode .cpl = [0x2F] ∧ encode .scf = [0x37] ∧ encode .ccf = [0x3F]

/-! ## 16-bit arithmetic -/

/-- R100, R101, R102, with their encodings: ADD HL,rr writes HL, N, H, C (carries out of bits 11 and 15) and keeps Z; INC rr and
DEC rr wrap modulo 2^16 and write no flag. The operand and the destination are given register by register. -/
def Obligations.WideArithmetic : Prop :=
  (∀ s : State, s.wide .bc = s.pair .bc ∧ s.wide .de = s.pair .de ∧ s.wide .hl = s.pair .hl ∧ s.wide .sp = s.sp) ∧
  (∀ (s : State) (p : Wide), exec (rowAddHl p) s = .next { s with
      regs := { s.regs with h := lowByte (s.pair .hl + s.wide p), l := highByte (s.pair .hl + s.wide p) }
      flags :=
        { z := s.flags.z, n := false
          h := decide ((s.pair .hl).toNat % 4096 + (s.wide p).toNat % 4096 > 4095)
          c := decide ((s.pair .hl).toNat + (s.wide p).toNat > 65535) }
      lastOutcome := some .ok }) ∧
  (∀ s : State,
    exec (rowIncWide .bc) s = .next { s with
      regs := { s.regs with b := lowByte (s.pair .bc + 1), c := highByte (s.pair .bc + 1) }, lastOutcome := some .ok } ∧
    exec (rowIncWide .de) s = .next { s with
      regs := { s.regs with d := lowByte (s.pair .de + 1), e := highByte (s.pair .de + 1) }, lastOutcome := some .ok } ∧
    exec (rowIncWide .hl) s = .next { s with
      regs := { s.regs with h := lowByte (s.pair .hl + 1), l := highByte (s.pair .hl + 1) }, lastOutcome := some .ok } ∧
    exec (rowIncWide .sp) s = .next { s with sp := s.sp + 1, lastOutcome := some .ok }) ∧
  (∀ s : State,
    exec (rowDecWide .bc) s = .next { s with
      regs := { s.regs with b := lowByte (s.pair .bc - 1), c := highByte (s.pair .bc - 1) }, lastOutcome := some .ok } ∧
    exec (rowDecWide .de) s = .next { s with
      regs := { s.regs with d := lowByte (s.pair .de - 1), e := highByte (s.pair .de - 1) }, lastOutcome := some .ok } ∧
    exec (rowDecWide .hl) s = .next { s with
      regs := { s.regs with h := lowByte (s.pair .hl - 1), l := highByte (s.pair .hl - 1) }, lastOutcome := some .ok } ∧
    exec (rowDecWide .sp) s = .next { s with sp := s.sp - 1, lastOutcome := some .ok }) ∧
  (∀ p : Wide,
    encode (rowAddHl p) = [opcodeByte 0 (2 * p.field + 1) 1] ∧
    encode (rowIncWide p) = [opcodeByte 0 (2 * p.field) 3] ∧
    encode (rowDecWide p) = [opcodeByte 0 (2 * p.field + 1) 3])

/-- R103, R104, with their encodings: SP plus a signed displacement, to SP or to HL. H and C are the carries of the unsigned
add of the low byte of SP and the raw byte. -/
def Obligations.StackPointerPlusDisplacement : Prop :=
  (∀ (s : State) (e : Byte) (f : Flags),
    f = { z := false, n := false
          h := decide (s.sp.toNat % 16 + e.toNat % 16 > 15), c := decide (s.sp.toNat % 256 + e.toNat > 255) } →
    exec (.add_SP_e8 e) s = .next { s with
      sp := BitVec.ofInt 16 (s.sp.toNat + e.toInt), flags := f, lastOutcome := some .ok } ∧
    exec (.ld_HL_SPe8 e) s = .next { s with
      regs := { s.regs with
        h := lowByte (BitVec.ofInt 16 (s.sp.toNat + e.toInt)), l := highByte (BitVec.ofInt 16 (s.sp.toNat + e.toInt)) }
      flags := f, lastOutcome := some .ok }) ∧
  (∀ e : Byte, encode (.add_SP_e8 e) = [0xE8, e] ∧ encode (.ld_HL_SPe8 e) = [0xF8, e])

/-! ## Loads and stores -/

/-- R105, R106, R124, R126, with their encodings: register moves and immediate loads. One register, pair or SP is written;
nothing else changes. -/
def Obligations.RegisterLoads : Prop :=
  (∀ (s : State) (dst src : Reg8), exec (rowLdRegReg dst src) s = .next { s with
      regs := s.regs.put dst (s.reg src), lastOutcome := some .ok }) ∧
  (∀ (s : State) (dst : Reg8) (n : Byte), exec (rowLdRegImm n dst) s = .next { s with
      regs := s.regs.put dst n, lastOutcome := some .ok }) ∧
  (∀ (s : State) (n : Addr),
    exec (rowLdWideImm n .bc) s = .next { s with
      regs := { s.regs with b := lowByte n, c := highByte n }, lastOutcome := some .ok } ∧
    exec (rowLdWideImm n .de) s = .next { s with
      regs := { s.regs with d := lowByte n, e := highByte n }, lastOutcome := some .ok } ∧
    exec (rowLdWideImm n .hl) s = .next { s with
      regs := { s.regs with h := lowByte n, l := highByte n }, lastOutcome := some .ok } ∧
    exec (rowLdWideImm n .sp) s = .next { s with sp := n, lastOutcome := some .ok }) ∧
  (∀ s : State, exec .ld_SP_HL s = .next { s with sp := s.pair .hl, lastOutcome := some .ok }) ∧
  (∀ (dst src : Reg8) (n : Byte) (p : Wide) (w : Addr),
    encode (rowLdRegReg dst src) = [opcodeByte 1 dst.field src.field] ∧
    encode (rowLdRegImm n dst) = [opcodeByte 0 dst.field 6, n] ∧
    encode (rowLdWideImm w p) = [opcodeByte 0 (2 * p.field) 1, lowByte w, highByte w] ∧
    encode .ld_SP_HL = [0xF9])

/-- R107, R110, R111, R116, R117, R119, R121, R123, with their encodings: the loads from memory. Each is one read, at an address
computed before it; the destination is written after it, and (HL+), (HL-) then step HL. With the bus broken each is a
ResourceFault. -/
def Obligations.LoadsFromMemory : Prop :=
  (∀ (s : State) (dst : Reg8), s.BusUp 1 → exec (rowLdRegMHL dst) s = .next { s.afterRead s.hl with
      regs := s.regs.put dst (s.valueAt s.hl), lastOutcome := some .ok }) ∧
  (∀ s : State, s.BusUp 1 →
    exec .ld_A_mBC s = .next { s.afterRead (s.pair .bc) with
      regs := { s.regs with a := s.valueAt (s.pair .bc) }, lastOutcome := some .ok } ∧
    exec .ld_A_mDE s = .next { s.afterRead (s.pair .de) with
      regs := { s.regs with a := s.valueAt (s.pair .de) }, lastOutcome := some .ok } ∧
    exec .ld_A_mHLI s = .next { s.afterRead s.hl with
      regs := { s.regs with a := s.valueAt s.hl, h := lowByte (s.hl + 1), l := highByte (s.hl + 1) }
      lastOutcome := some .ok } ∧
    exec .ld_A_mHLD s = .next { s.afterRead s.hl with
      regs := { s.regs with a := s.valueAt s.hl, h := lowByte (s.hl - 1), l := highByte (s.hl - 1) }
      lastOutcome := some .ok }) ∧
  (∀ (s : State) (a : Addr) (n : Byte), s.BusUp 1 →
    exec (.ld_A_ma16 a) s = .next { s.afterRead a with
      regs := { s.regs with a := s.valueAt a }, lastOutcome := some .ok } ∧
    exec (.ldh_A_ma8 n) s = .next { s.afterRead (joinBytes 0xFF n) with
      regs := { s.regs with a := s.valueAt (joinBytes 0xFF n) }, lastOutcome := some .ok } ∧
    exec .ld_A_mC s = .next { s.afterRead (joinBytes 0xFF s.regs.c) with
      regs := { s.regs with a := s.valueAt (joinBytes 0xFF s.regs.c) }, lastOutcome := some .ok }) ∧
  (∀ (s : State) (dst : Reg8) (a : Addr) (n : Byte),
    FaultsWhereBroken (rowLdRegMHL dst) s [(.read, s.hl)] ∧
    FaultsWhereBroken .ld_A_mBC s [(.read, s.pair .bc)] ∧ FaultsWhereBroken .ld_A_mDE s [(.read, s.pair .de)] ∧
    FaultsWhereBroken .ld_A_mHLI s [(.read, s.hl)] ∧ FaultsWhereBroken .ld_A_mHLD s [(.read, s.hl)] ∧
    FaultsWhereBroken (.ld_A_ma16 a) s [(.read, a)] ∧
    FaultsWhereBroken (.ldh_A_ma8 n) s [(.read, joinBytes 0xFF n)] ∧
    FaultsWhereBroken .ld_A_mC s [(.read, joinBytes 0xFF s.regs.c)]) ∧
  (∀ (dst : Reg8) (p : Indirect) (a : Addr) (n : Byte),
    encode (rowLdRegMHL dst) = [opcodeByte 1 dst.field 6] ∧ encode (rowLdAccInd p) = [opcodeByte 0 (2 * p.field + 1) 2] ∧
    encode (.ld_A_ma16 a) = [0xFA, lowByte a, highByte a] ∧ encode (.ldh_A_ma8 n) = [0xF0, n] ∧ encode .ld_A_mC = [0xF2])

/-- R108, R109, R112 to R115, R118, R120, R122, with their encodings: the one-byte stores. Each is one write, at an address
computed before it; (HL+), (HL-) then step HL; no register else and no flag changes. With the bus broken each is a
ResourceFault. -/
def Obligations.OneByteStores : Prop :=
  (∀ (s : State) (src : Reg8) (n : Byte), s.BusUp 1 →
    exec (rowLdMHLReg src) s = .next { s.afterWrite s.hl (s.reg src) with lastOutcome := some .ok } ∧
    exec (.ld_mHL_n8 n) s = .next { s.afterWrite s.hl n with lastOutcome := some .ok }) ∧
  (∀ s : State, s.BusUp 1 →
    exec .ld_mBC_A s = .next { s.afterWrite (s.pair .bc) s.regs.a with lastOutcome := some .ok } ∧
    exec .ld_mDE_A s = .next { s.afterWrite (s.pair .de) s.regs.a with lastOutcome := some .ok } ∧
    exec .ld_mHLI_A s = .next { s.afterWrite s.hl s.regs.a with
      regs := { s.regs with h := lowByte (s.hl + 1), l := highByte (s.hl + 1) }, lastOutcome := some .ok } ∧
    exec .ld_mHLD_A s = .next { s.afterWrite s.hl s.regs.a with
      regs := { s.regs with h := lowByte (s.hl - 1), l := highByte (s.hl - 1) }, lastOutcome := some .ok }) ∧
  (∀ (s : State) (a : Addr) (n : Byte), s.BusUp 1 →
    exec (.ld_ma16_A a) s = .next { s.afterWrite a s.regs.a with lastOutcome := some .ok } ∧
    exec (.ldh_ma8_A n) s = .next { s.afterWrite (joinBytes 0xFF n) s.regs.a with lastOutcome := some .ok } ∧
    exec .ld_mC_A s = .next { s.afterWrite (joinBytes 0xFF s.regs.c) s.regs.a with lastOutcome := some .ok }) ∧
  (∀ (s : State) (src : Reg8) (a : Addr) (n : Byte),
    FaultsWhereBroken (rowLdMHLReg src) s [(.write, s.hl)] ∧ FaultsWhereBroken (.ld_mHL_n8 n) s [(.write, s.hl)] ∧
    FaultsWhereBroken .ld_mBC_A s [(.write, s.pair .bc)] ∧ FaultsWhereBroken .ld_mDE_A s [(.write, s.pair .de)] ∧
    FaultsWhereBroken .ld_mHLI_A s [(.write, s.hl)] ∧ FaultsWhereBroken .ld_mHLD_A s [(.write, s.hl)] ∧
    FaultsWhereBroken (.ld_ma16_A a) s [(.write, a)] ∧
    FaultsWhereBroken (.ldh_ma8_A n) s [(.write, joinBytes 0xFF n)] ∧
    FaultsWhereBroken .ld_mC_A s [(.write, joinBytes 0xFF s.regs.c)]) ∧
  (∀ (src : Reg8) (p : Indirect) (a : Addr) (n : Byte),
    encode (rowLdMHLReg src) = [opcodeByte 1 6 src.field] ∧ encode (.ld_mHL_n8 n) = [0x36, n] ∧
    encode (rowLdIndAcc p) = [opcodeByte 0 (2 * p.field) 2] ∧ encode (.ld_ma16_A a) = [0xEA, lowByte a, highByte a] ∧
    encode (.ldh_ma8_A n) = [0xE0, n] ∧ encode .ld_mC_A = [0xE2])

/-- R125, with its encoding: LD (a16),SP stores the low byte of SP, then the high byte one address up, wrapping. -/
def Obligations.StoreStackPointer : Prop :=
  (∀ (s : State) (a : Addr), s.BusUp 2 → exec (.ld_ma16_SP a) s = .next
    { (s.afterWrite a (lowByte s.sp)).afterWrite (a + 1) (highByte s.sp) with lastOutcome := some .ok }) ∧
  (∀ (s : State) (a : Addr), FaultsWhereBroken (.ld_ma16_SP a) s [(.write, a), (.write, a + 1)]) ∧
  (∀ a : Addr, encode (.ld_ma16_SP a) = [0x08, lowByte a, highByte a])

/-! ## Stack -/

/-- R127, R129, with the encoding: PUSH writes the high byte of the pair at SP - 1, then the low byte at SP - 2, and leaves SP two
lower; no register of the pair and no flag changes. That the record keeps the first of two accesses as made where the second
finds the bus broken is the model's choice (log entry 18). -/
def Obligations.PushPair : Prop :=
  (∀ (s : State) (p : Pair), s.BusUp 2 → exec (rowPush p) s = .next
    { (s.afterWrite (s.sp - 1) (highByte (s.pair p))).afterWrite (s.sp - 2) (lowByte (s.pair p)) with
      sp := s.sp - 2, lastOutcome := some .ok }) ∧
  (∀ (s : State) (p : Pair), FaultsWhereBroken (rowPush p) s [(.write, s.sp - 1), (.write, s.sp - 2)]) ∧
  (∀ p : Pair, encode (rowPush p) = [opcodeByte 3 (2 * p.field) 5])

/-- R128, R130, R131, with their encodings: POP reads the low byte at SP, then the high byte at SP + 1, leaves SP two higher, and
writes the pair once; POP AF writes A and, from the high byte's upper nibble, the four flags. That the record keeps the first of two accesses as made where the second
finds the bus broken is the model's choice (log entry 18). -/
def Obligations.PopPair : Prop :=
  (∀ (s : State) (lo hi : Byte), s.BusUp 2 → lo = s.valueAt s.sp → hi = (s.afterRead s.sp).valueAt (s.sp + 1) →
    exec .pop_BC s = .next { (s.afterRead s.sp).afterRead (s.sp + 1) with
      regs := { s.regs with b := lo, c := hi }, sp := s.sp + 2, lastOutcome := some .ok } ∧
    exec .pop_DE s = .next { (s.afterRead s.sp).afterRead (s.sp + 1) with
      regs := { s.regs with d := lo, e := hi }, sp := s.sp + 2, lastOutcome := some .ok } ∧
    exec .pop_HL s = .next { (s.afterRead s.sp).afterRead (s.sp + 1) with
      regs := { s.regs with h := lo, l := hi }, sp := s.sp + 2, lastOutcome := some .ok } ∧
    exec .pop_AF s = .next { (s.afterRead s.sp).afterRead (s.sp + 1) with
      regs := { s.regs with a := lo }
      flags := { z := hi.getLsbD 7, n := hi.getLsbD 6, h := hi.getLsbD 5, c := hi.getLsbD 4 }
      sp := s.sp + 2, lastOutcome := some .ok }) ∧
  (∀ (s : State) (p : Pair), FaultsWhereBroken (rowPop p) s [(.read, s.sp), (.read, s.sp + 1)]) ∧
  (∀ p : Pair, encode (rowPop p) = [opcodeByte 3 (2 * p.field) 1])

/-- What is pushed is what is popped (R127, R128): with no other agent acting, PUSH p then POP q leaves in q the pair p held, with
bits 11 to 8 dropped where q is AF, and SP where it was. -/
def Obligations.PopReturnsWhatWasPushed : Prop :=
  ∀ (s : State) (p q : Pair), s.Quiet → ∃ t u, exec (rowPush p) s = .next t ∧ exec (rowPop q) t = .next u ∧
    u.pair q = (if q = .af then s.pair p &&& 0xF0FF else s.pair p) ∧ u.sp = s.sp

/-! ## Control transfer -/

/-- R132 to R137, with their encodings: JP and JR. A taken transfer overwrites PC; one not taken leaves PC past the instruction;
nothing else changes. -/
def Obligations.Jumps : Prop :=
  (∀ s : State, s.cond .nz = !s.flags.z ∧ s.cond .z = s.flags.z ∧ s.cond .nc = !s.flags.c ∧ s.cond .c = s.flags.c) ∧
  (∀ (s : State) (a : Addr) (e : Byte),
    exec (.jp_a16 a) s = .next { s with pc := a, lastOutcome := some .ok } ∧
    exec .jp_HL s = .next { s with pc := s.pair .hl, lastOutcome := some .ok } ∧
    exec (.jr_e8 e) s = .next { s with pc := BitVec.ofInt 16 (s.pc.toNat + e.toInt), lastOutcome := some .ok }) ∧
  (∀ (s : State) (cc : Cond) (a : Addr) (e : Byte),
    exec (rowJpIf a cc) s = .next { s with pc := if s.cond cc then a else s.pc, lastOutcome := some .ok } ∧
    exec (rowJrIf e cc) s = .next { s with
      pc := if s.cond cc then BitVec.ofInt 16 (s.pc.toNat + e.toInt) else s.pc, lastOutcome := some .ok }) ∧
  (∀ (cc : Cond) (a : Addr) (e : Byte),
    encode (.jp_a16 a) = [0xC3, lowByte a, highByte a] ∧ encode .jp_HL = [0xE9] ∧ encode (.jr_e8 e) = [0x18, e] ∧
    encode (rowJpIf a cc) = [opcodeByte 3 cc.field 2, lowByte a, highByte a] ∧
    encode (rowJrIf e cc) = [opcodeByte 0 (4 + cc.field) 0, e])

/-- R138, R139, R142, with their encodings: CALL, CALL cc and RST push PC, which is the address after the instruction, and set PC to
the target; CALL cc not taken makes no bus access and changes nothing. That the record keeps the first of two accesses as made where the second
finds the bus broken is the model's choice (log entry 18). -/
def Obligations.CallsAndRestarts : Prop :=
  (∀ (s : State) (a : Addr), s.BusUp 2 → exec (.call_a16 a) s = .next
    { (s.afterWrite (s.sp - 1) (highByte s.pc)).afterWrite (s.sp - 2) (lowByte s.pc) with
      sp := s.sp - 2, pc := a, lastOutcome := some .ok }) ∧
  (∀ (s : State) (cc : Cond) (a : Addr), s.cond cc = true → s.BusUp 2 → exec (rowCallIf a cc) s = .next
    { (s.afterWrite (s.sp - 1) (highByte s.pc)).afterWrite (s.sp - 2) (lowByte s.pc) with
      sp := s.sp - 2, pc := a, lastOutcome := some .ok }) ∧
  (∀ (s : State) (cc : Cond) (a : Addr), s.cond cc = false →
    exec (rowCallIf a cc) s = .next { s with lastOutcome := some .ok }) ∧
  (∀ (s : State) (y : Fin 8), s.BusUp 2 → exec (rowRst y) s = .next
    { (s.afterWrite (s.sp - 1) (highByte s.pc)).afterWrite (s.sp - 2) (lowByte s.pc) with
      sp := s.sp - 2, pc := BitVec.ofNat 16 (8 * y.val), lastOutcome := some .ok }) ∧
  (∀ (s : State) (cc : Cond) (a : Addr) (y : Fin 8),
    FaultsWhereBroken (.call_a16 a) s [(.write, s.sp - 1), (.write, s.sp - 2)] ∧
    FaultsWhereBroken (rowRst y) s [(.write, s.sp - 1), (.write, s.sp - 2)] ∧
    (s.cond cc = true → FaultsWhereBroken (rowCallIf a cc) s [(.write, s.sp - 1), (.write, s.sp - 2)])) ∧
  (∀ (cc : Cond) (a : Addr) (y : Fin 8),
    encode (.call_a16 a) = [0xCD, lowByte a, highByte a] ∧
    encode (rowCallIf a cc) = [opcodeByte 3 cc.field 4, lowByte a, highByte a] ∧
    encode (rowRst y) = [opcodeByte 3 y.val 7])

/-- R140, R141, with their encodings: RET and RET cc pop PC; RET cc not taken makes no bus access and changes nothing. That the record keeps the first of two accesses as made where the second
finds the bus broken is the model's choice (log entry 18). -/
def Obligations.Returns : Prop :=
  (∀ (s : State) (lo hi : Byte), s.BusUp 2 → lo = s.valueAt s.sp → hi = (s.afterRead s.sp).valueAt (s.sp + 1) →
    exec .ret s = .next { (s.afterRead s.sp).afterRead (s.sp + 1) with
      pc := joinBytes hi lo, sp := s.sp + 2, lastOutcome := some .ok } ∧
    (∀ cc, s.cond cc = true → exec (rowRetIf cc) s = .next { (s.afterRead s.sp).afterRead (s.sp + 1) with
      pc := joinBytes hi lo, sp := s.sp + 2, lastOutcome := some .ok })) ∧
  (∀ (s : State) (cc : Cond), s.cond cc = false → exec (rowRetIf cc) s = .next { s with lastOutcome := some .ok }) ∧
  (∀ (s : State) (cc : Cond), FaultsWhereBroken .ret s [(.read, s.sp), (.read, s.sp + 1)] ∧
    (s.cond cc = true → FaultsWhereBroken (rowRetIf cc) s [(.read, s.sp), (.read, s.sp + 1)])) ∧
  (∀ cc : Cond, encode .ret = [0xC9] ∧ encode (rowRetIf cc) = [opcodeByte 3 cc.field 0])

/-- A call comes back (R138, R140): with no other agent acting, CALL then RET leaves PC at the address after the CALL and SP where
it was. -/
def Obligations.ReturnComesBackToTheCall : Prop :=
  ∀ (s : State) (a : Addr), s.Quiet → ∃ t u, exec (.call_a16 a) s = .next t ∧ t.pc = a ∧ exec .ret t = .next u ∧
    u.pc = s.pc ∧ u.sp = s.sp

/-! ## Rotates, shifts, bits -/

/-- The results of R144 to R156 in exact arithmetic: the byte and the bit that goes to C. -/
def Obligations.RotateAndShiftResults : Prop :=
  ∀ (v : Byte) (c : Bool),
    (rotShifted .rlc v c).out.toNat = (2 * v.toNat) % 256 + v.toNat / 128 ∧
    (rotShifted .rrc v c).out.toNat = v.toNat / 2 + 128 * (v.toNat % 2) ∧
    (rotShifted .rl v c).out.toNat = (2 * v.toNat) % 256 + b2i c ∧
    (rotShifted .rr v c).out.toNat = v.toNat / 2 + 128 * b2i c ∧
    (rotShifted .sla v c).out.toNat = (2 * v.toNat) % 256 ∧
    (rotShifted .sra v c).out.toNat = v.toNat / 2 + 128 * (v.toNat / 128) ∧
    (rotShifted .swap v c).out.toNat = 16 * (v.toNat % 16) + v.toNat / 16 ∧
    (rotShifted .srl v c).out.toNat = v.toNat / 2 ∧
    (∀ k ∈ [RotOp.rlc, .rl, .sla], (rotShifted k v c).carry = decide (v.toNat / 128 = 1)) ∧
    (∀ k ∈ [RotOp.rrc, .rr, .sra, .srl], (rotShifted k v c).carry = decide (v.toNat % 2 = 1)) ∧
    (rotShifted .swap v c).carry = false

/-- R144 to R147, with their encodings: the rotates of A. Z, N and H are cleared whatever the result, C is the bit rotated out. -/
def Obligations.AccumulatorRotates : Prop :=
  (∀ s : State,
    exec .rlca s = .next { s with
      regs := { s.regs with a := BitVec.ofNat 8 (2 * s.regs.a.toNat + s.regs.a.toNat / 128) }
      flags := { z := false, n := false, h := false, c := decide (s.regs.a.toNat / 128 = 1) }, lastOutcome := some .ok } ∧
    exec .rrca s = .next { s with
      regs := { s.regs with a := BitVec.ofNat 8 (s.regs.a.toNat / 2 + 128 * (s.regs.a.toNat % 2)) }
      flags := { z := false, n := false, h := false, c := decide (s.regs.a.toNat % 2 = 1) }, lastOutcome := some .ok } ∧
    exec .rla s = .next { s with
      regs := { s.regs with a := BitVec.ofNat 8 (2 * s.regs.a.toNat + b2i s.flags.c) }
      flags := { z := false, n := false, h := false, c := decide (s.regs.a.toNat / 128 = 1) }, lastOutcome := some .ok } ∧
    exec .rra s = .next { s with
      regs := { s.regs with a := BitVec.ofNat 8 (s.regs.a.toNat / 2 + 128 * b2i s.flags.c) }
      flags := { z := false, n := false, h := false, c := decide (s.regs.a.toNat % 2 = 1) }, lastOutcome := some .ok }) ∧
  encode .rlca = [0x07] ∧ encode .rrca = [0x0F] ∧ encode .rla = [0x17] ∧ encode .rra = [0x1F]

/-- R148 to R156, with their encodings: the CB rotates and shifts of a register and of the byte at (HL). The operand gets the
result, Z is set from it, N and H are cleared, C is the bit shifted out; the (HL) forms read, then write the same address. That the record keeps the first of two accesses as made where the second
finds the bus broken is the model's choice (log entry 18). -/
def Obligations.PrefixedRotatesAndShifts : Prop :=
  (∀ (s : State) (k : RotOp) (r : Reg8) (out : Byte), out = (rotShifted k (s.reg r) s.flags.c).out →
    exec (rowRot k (.reg r)) s = .next { s with
      regs := s.regs.put r out
      flags := { z := out == 0, n := false, h := false, c := (rotShifted k (s.reg r) s.flags.c).carry }
      lastOutcome := some .ok }) ∧
  (∀ (s : State) (k : RotOp) (v out : Byte), s.BusUp 2 → v = s.valueAt s.hl → out = (rotShifted k v s.flags.c).out →
    exec (rowRot k .mHL) s = .next { (s.afterRead s.hl).afterWrite s.hl out with
      flags := { z := out == 0, n := false, h := false, c := (rotShifted k v s.flags.c).carry }
      lastOutcome := some .ok }) ∧
  (∀ (s : State) (k : RotOp), FaultsWhereBroken (rowRot k .mHL) s [(.read, s.hl), (.write, s.hl)]) ∧
  (∀ (k : RotOp) (o : Operand8), encode (rowRot k o) = [0xCB, opcodeByte 0 k.field o.field])

/-- R157, R158, R159, with their encodings: BIT sets Z from one bit, clears N, sets H, keeps C and writes nothing back; RES and SET
write the operand with one bit cleared or set and no flag. That the record keeps the first of two accesses as made where the second
finds the bus broken is the model's choice (log entry 18). -/
def Obligations.BitOperations : Prop :=
  (∀ (s : State) (b : Fin 8) (r : Reg8),
    exec (rowBit b (.reg r)) s = .next { s with
      flags := { z := !(s.reg r).getLsbD b.val, n := false, h := true, c := s.flags.c }, lastOutcome := some .ok } ∧
    exec (rowRes b (.reg r)) s = .next { s with
      regs := s.regs.put r (s.reg r &&& ~~~((1 : Byte) <<< b.val)), lastOutcome := some .ok } ∧
    exec (rowSet b (.reg r)) s = .next { s with
      regs := s.regs.put r (s.reg r ||| ((1 : Byte) <<< b.val)), lastOutcome := some .ok }) ∧
  (∀ (s : State) (b : Fin 8), s.BusUp 1 → exec (rowBit b .mHL) s = .next { s.afterRead s.hl with
      flags := { z := !(s.valueAt s.hl).getLsbD b.val, n := false, h := true, c := s.flags.c }, lastOutcome := some .ok }) ∧
  (∀ (s : State) (b : Fin 8) (v : Byte), s.BusUp 2 → v = s.valueAt s.hl →
    exec (rowRes b .mHL) s = .next
      { (s.afterRead s.hl).afterWrite s.hl (v &&& ~~~((1 : Byte) <<< b.val)) with lastOutcome := some .ok } ∧
    exec (rowSet b .mHL) s = .next
      { (s.afterRead s.hl).afterWrite s.hl (v ||| ((1 : Byte) <<< b.val)) with lastOutcome := some .ok }) ∧
  (∀ (s : State) (b : Fin 8), FaultsWhereBroken (rowBit b .mHL) s [(.read, s.hl)] ∧
    FaultsWhereBroken (rowRes b .mHL) s [(.read, s.hl), (.write, s.hl)] ∧
    FaultsWhereBroken (rowSet b .mHL) s [(.read, s.hl), (.write, s.hl)]) ∧
  (∀ (b : Fin 8) (o : Operand8),
    encode (rowBit b o) = [0xCB, opcodeByte 1 b.val o.field] ∧ encode (rowRes b o) = [0xCB, opcodeByte 2 b.val o.field] ∧
    encode (rowSet b o) = [0xCB, opcodeByte 3 b.val o.field])

/-- R167: the prefix byte read with a sub-opcode is the CB instruction of that sub-opcode, in every state; and the decoder answers
that instruction for the pair of bytes, never the bare prefix. -/
def Obligations.PrefixIsTheInstructionOfItsSubOpcode : Prop :=
  (∀ (s : State) (sub : Byte), exec (.prefix_CB sub) s = exec (decodeCb sub).instr s) ∧
  (∀ (sl : StopLen) (sub : Byte) (rest : List Byte),
    decode sl (0xCB :: sub :: rest) = .ok ((decodeCb sub).instr, rest) ∧ ∀ x, (decodeCb sub).instr ≠ .prefix_CB x)

/-! ## System -/

/-- R160, with its encoding: NOP changes nothing beyond the PC advance. -/
def Obligations.NoOperation : Prop :=
  (∀ s : State, exec .nop s = .next { s with lastOutcome := some .ok }) ∧ encode .nop = [0x00]

/-- R161 to R165, R170, with their encodings: the unwired opcodes report Unimplemented with the opcode byte and change nothing
else beyond the PC advance; the engine stays Running. -/
def Obligations.UnwiredOpcodes : Prop :=
  (∀ (s : State) (pad : Option Byte),
    exec .halt s = .next { s with lastOutcome := some (.unimplemented 0x76) } ∧
    exec (.stop pad) s = .next { s with lastOutcome := some (.unimplemented 0x10) } ∧
    exec .di s = .next { s with lastOutcome := some (.unimplemented 0xF3) } ∧
    exec .ei s = .next { s with lastOutcome := some (.unimplemented 0xFB) } ∧
    exec .reti s = .next { s with lastOutcome := some (.unimplemented 0xD9) }) ∧
  (∀ n : Byte, encode .halt = [0x76] ∧ encode (.stop (some n)) = [0x10, n] ∧ encode (.stop none) = [0x10] ∧
    encode .di = [0xF3] ∧ encode .ei = [0xFB] ∧ encode .reti = [0xD9])

/-- R166, R169, with the encodings of R62: a sentinel, dispatched with PC one past it, makes the engine Faulted and reports Fatal
with its opcode byte and its address, and changes nothing else. -/
def Obligations.SentinelOpcodes : Prop :=
  (∀ (s : State) (h : Hole), ∃ op ∈ holeOpcodes, encode (rowIllegal h) = [op] ∧
    exec (rowIllegal h) s = .next { s with
      runState := .faulted (.fatal op (s.pc - 1)), lastOutcome := some (.faulted (.fatal op (s.pc - 1))) }) ∧
  (∀ op ∈ holeOpcodes, ∃ h, encode (rowIllegal h) = [op])

/-! ## Whole-machine rules -/

/-- Every instruction is executable at any time (R178), in the model's form of it: no state and no operand makes `exec` or `step`
answer anything but a next state. That a Faulted engine and a Fatal, ResourceFault, Unimplemented or Stopped outcome are next
states too, with the outcome in them, and not stops of the model, is the model's choice (log entry 3); it says nothing against
a Faulted engine taking no further step (R70, R169: FaultedForever). -/
def Obligations.NothingStopsTheMachine : Prop :=
  (∀ (i : Instr) (s : State), ∃ t, exec i s = .next t) ∧ (∀ s : State, ∃ t, step s = .next t)

/-- R63, R75: every operation but the unwired ones and the sentinels ends with Ok, for all its operands, wherever the bus is whole
at its accesses. -/
def Obligations.WiredInstructionsEndWithOk : Prop :=
  ∀ (op : Operation) (s : State), op.wired = true → s.BusUp (op.resolve.accesses s).length →
    ∃ t, exec op.instr s = .next t ∧ t.lastOutcome = some .ok ∧ t.runState = s.runState

/-- R53, R171: every instruction, for all its operands, that finds the bus broken at one of its accesses ends in a ResourceFault
with its address and opcode; that access and those after it were not made. That those before it stand in the record as made is
the model's choice, since R171 leaves open whether they took effect (log entry 18). -/
def Obligations.BrokenBusIsAResourceFault : Prop :=
  ∀ (op : Operation) (s : State), FaultsWhereBroken op.instr s (op.resolve.accesses s)

/-- R27, R76: the flags of every instruction follow the `flags` column of the opcode table. -/
def Obligations.FlagsFollowTheTable : Prop :=
  ∀ (op : Operation) (s t : State), s.BusUp (op.resolve.accesses s).length → exec op.instr s = .next t →
    op.resolve.flagEffects.z.Allows s.params.andSetsH s.flags.z t.flags.z ∧
    op.resolve.flagEffects.n.Allows s.params.andSetsH s.flags.n t.flags.n ∧
    op.resolve.flagEffects.h.Allows s.params.andSetsH s.flags.h t.flags.h ∧
    op.resolve.flagEffects.c.Allows s.params.andSetsH s.flags.c t.flags.c

/-- R16: the frame of every instruction on the register file. A register that is not its destination, nor HL stepped by its
addressing form, is unchanged; SP is unchanged but by the operations that write it, and PC but by the control transfers. -/
def Obligations.RegisterFrame : Prop :=
  ∀ (op : Operation) (s t : State), s.BusUp (op.resolve.accesses s).length → exec op.instr s = .next t →
    (∀ r, r ∉ op.resolve.registers → t.reg r = s.reg r) ∧
    (op.resolve.writesSp = false → t.sp = s.sp) ∧
    (op.resolve.writesPc = false → t.pc = s.pc)

/-- The frame of every instruction on memory: every byte outside the addresses it stores to reads after it as it read with the
other agents' events alone (all of them, for an instruction that stores nothing), and with no other agent acting it reads as
before. -/
def Obligations.MemoryFrame : Prop :=
  ∀ (op : Operation) (s t : State), s.BusUp (op.resolve.accesses s).length → exec op.instr s = .next t →
    ∀ a, a ∉ op.resolve.stores s →
      t.mem.read a = (s.admits (op.resolve.accesses s).length).mem.read a ∧ (s.schedule = [] → t.mem.read a = s.mem.read a)

/-- R13, R40, R73: the bus accesses the engine makes in the execute phase of every instruction, and their order, whatever other
agents do between them: those of `Operation.accesses`, and no others. And what one access is (R36, R48): a read gets the byte the
storage then holds and changes nothing but the record, and a write stores one byte. R47 says that other agents may act before an
access; that exactly the next batch of the schedule lands there is the model's choice (log entry 7). -/
def Obligations.EngineAccessOrder : Prop :=
  (∀ (op : Operation) (s t : State), s.BusUp (op.resolve.accesses s).length → exec op.instr s = .next t →
    engineAccesses t.busLog = (op.resolve.accesses s).reverse ++ engineAccesses s.busLog) ∧
  (∀ (s : State) (a : Addr) (v : Byte),
    s.valueAt a = s.admitOne.mem.read a ∧
    s.afterRead a = { s.admitOne with
      busLog := ⟨.engine, .read, a, s.admitOne.mem.read a⟩ :: s.admitOne.busLog } ∧
    s.afterWrite a v = { s.admitOne with
      mem := s.admitOne.mem.write a v, busLog := ⟨.engine, .write, a, v⟩ :: s.admitOne.busLog })

/-- R29, R30, R172: the stop signal, the bus's condition and the started flag are out of every instruction's reach: after it they
are what the other agents' events alone make them. The schedule loses one batch for each access and the parameters of R7 stay:
that these two are data of the state, and one batch for each point, is the model's choice (log entries 7 and 5). -/
def Obligations.HostStateIsOutOfReach : Prop :=
  ∀ (op : Operation) (s t : State), s.BusUp (op.resolve.accesses s).length → exec op.instr s = .next t →
    t.stopRequested = (s.admits (op.resolve.accesses s).length).stopRequested ∧
    t.busBroken = (s.admits (op.resolve.accesses s).length).busBroken ∧
    t.schedule = s.schedule.drop (op.resolve.accesses s).length ∧
    t.params = s.params ∧ t.started = s.started

/-- R170, R176: after Unimplemented the engine is Running with its registers, flags and SP as they were, the opcode is one of the
five, and the next step goes on (it is not a Faulted one). -/
def Obligations.UnimplementedIsRecoverable : Prop :=
  ∀ (s t : State) (op : Byte), step s = .next t → t.lastOutcome = some (.unimplemented op) →
    op ∈ unwiredOpcodes ∧ t.runState = .running ∧ t.regs = s.regs ∧ t.flags = s.flags ∧ t.sp = s.sp

/-- R70, R176: after Fatal or ResourceFault there is no resumption: however often the step is called, and whatever other agents
do, the engine stays Faulted with the same outcome, its registers and flags stay, and it makes no bus access. -/
def Obligations.FaultedForever : Prop :=
  ∀ (k : Nat) (s : State) (o : Terminal), s.runState = .faulted o → ∃ t, steps k s = .next t ∧
    t.runState = .faulted o ∧ t.regs = s.regs ∧ t.flags = s.flags ∧ t.pc = s.pc ∧ t.sp = s.sp ∧
    engineAccesses t.busLog = engineAccesses s.busLog ∧ (k ≠ 0 → t.lastOutcome = some (.faulted o))

/-- R43, R45: observers do not disturb. The reads other agents make, in any number at any point, change nothing of what a step
does but the record of bus events itself. -/
def Obligations.ObserversDoNotDisturb : Prop :=
  ∀ s t : State, step s = .next t → ∃ u, step s.unobserved = .next u ∧ u.unobserved = t.unobserved

/-! ## Invariants -/

/-- The invariant of the machine holds after construction, whatever its arguments. -/
def Obligations.InvariantHoldsAfterConstruction : Prop :=
  ∀ (c : Construction) (s : State), construct c = some s → s.Inv

/-- Every step keeps the invariant: the storage stays in canonical form; the engine is Faulted exactly while it returned a
terminal outcome, a ResourceFault from a broken bus only, a Fatal from a sentinel only; Unimplemented from an unwired opcode
only; no engine access before the first step. -/
def Obligations.EveryStepKeepsTheInvariant : Prop :=
  ∀ s t : State, s.Inv → step s = .next t → t.Inv

/-- A freshly constructed machine's bus is coherent with its construction contents. -/
def Obligations.BusIsCoherentAfterConstruction : Prop :=
  ∀ (c : Construction) (s : State), construct c = some s → s.Coherent s.mem

/-- R35, R48: every step keeps the bus coherent, whatever other agents do in it: the record of events is one total order, the bus
holds the latest write to each address in it (or the construction contents), and every read of every agent got the latest write
before it. -/
def Obligations.EveryStepKeepsTheBusCoherent : Prop :=
  ∀ (base : Memory) (s t : State), s.Coherent base → step s = .next t → t.Coherent base
end

