-- ==== Sys2Proof/Laws/State.lean ====
section
/-! SUPPORT. One lemma for each field of State under each update, so that no proof unfolds a record update. -/

namespace Sys2Proof.Machine

variable (s : State)

/-! ### setReg -/

@[simp] theorem State.setReg_regs (r : Reg8) (v : Byte) : (s.setReg r v).regs = s.regs.put r v := rfl
@[simp] theorem State.setReg_flags (r : Reg8) (v : Byte) : (s.setReg r v).flags = s.flags := rfl
@[simp] theorem State.setReg_pc (r : Reg8) (v : Byte) : (s.setReg r v).pc = s.pc := rfl
@[simp] theorem State.setReg_sp (r : Reg8) (v : Byte) : (s.setReg r v).sp = s.sp := rfl
@[simp] theorem State.setReg_mem (r : Reg8) (v : Byte) : (s.setReg r v).mem = s.mem := rfl
@[simp] theorem State.setReg_stopRequested (r : Reg8) (v : Byte) : (s.setReg r v).stopRequested = s.stopRequested := rfl
@[simp] theorem State.setReg_runState (r : Reg8) (v : Byte) : (s.setReg r v).runState = s.runState := rfl
@[simp] theorem State.setReg_busBroken (r : Reg8) (v : Byte) : (s.setReg r v).busBroken = s.busBroken := rfl
@[simp] theorem State.setReg_started (r : Reg8) (v : Byte) : (s.setReg r v).started = s.started := rfl
@[simp] theorem State.setReg_params (r : Reg8) (v : Byte) : (s.setReg r v).params = s.params := rfl
@[simp] theorem State.setReg_lastOutcome (r : Reg8) (v : Byte) : (s.setReg r v).lastOutcome = s.lastOutcome := rfl
@[simp] theorem State.setReg_busLog (r : Reg8) (v : Byte) : (s.setReg r v).busLog = s.busLog := rfl
@[simp] theorem State.setReg_schedule (r : Reg8) (v : Byte) : (s.setReg r v).schedule = s.schedule := rfl
@[simp] theorem State.setReg_freeDraws (r : Reg8) (v : Byte) : (s.setReg r v).freeDraws = s.freeDraws := rfl

/-! ### setFlags -/

@[simp] theorem State.setFlags_regs (f : Flags) : (s.setFlags f).regs = s.regs := rfl
@[simp] theorem State.setFlags_flags (f : Flags) : (s.setFlags f).flags = f := rfl
@[simp] theorem State.setFlags_pc (f : Flags) : (s.setFlags f).pc = s.pc := rfl
@[simp] theorem State.setFlags_sp (f : Flags) : (s.setFlags f).sp = s.sp := rfl
@[simp] theorem State.setFlags_mem (f : Flags) : (s.setFlags f).mem = s.mem := rfl
@[simp] theorem State.setFlags_stopRequested (f : Flags) : (s.setFlags f).stopRequested = s.stopRequested := rfl
@[simp] theorem State.setFlags_runState (f : Flags) : (s.setFlags f).runState = s.runState := rfl
@[simp] theorem State.setFlags_busBroken (f : Flags) : (s.setFlags f).busBroken = s.busBroken := rfl
@[simp] theorem State.setFlags_started (f : Flags) : (s.setFlags f).started = s.started := rfl
@[simp] theorem State.setFlags_params (f : Flags) : (s.setFlags f).params = s.params := rfl
@[simp] theorem State.setFlags_lastOutcome (f : Flags) : (s.setFlags f).lastOutcome = s.lastOutcome := rfl
@[simp] theorem State.setFlags_busLog (f : Flags) : (s.setFlags f).busLog = s.busLog := rfl
@[simp] theorem State.setFlags_schedule (f : Flags) : (s.setFlags f).schedule = s.schedule := rfl
@[simp] theorem State.setFlags_freeDraws (f : Flags) : (s.setFlags f).freeDraws = s.freeDraws := rfl

/-! ### setPc -/

@[simp] theorem State.setPc_regs (v : Addr) : (s.setPc v).regs = s.regs := rfl
@[simp] theorem State.setPc_flags (v : Addr) : (s.setPc v).flags = s.flags := rfl
@[simp] theorem State.setPc_pc (v : Addr) : (s.setPc v).pc = v := rfl
@[simp] theorem State.setPc_sp (v : Addr) : (s.setPc v).sp = s.sp := rfl
@[simp] theorem State.setPc_mem (v : Addr) : (s.setPc v).mem = s.mem := rfl
@[simp] theorem State.setPc_stopRequested (v : Addr) : (s.setPc v).stopRequested = s.stopRequested := rfl
@[simp] theorem State.setPc_runState (v : Addr) : (s.setPc v).runState = s.runState := rfl
@[simp] theorem State.setPc_busBroken (v : Addr) : (s.setPc v).busBroken = s.busBroken := rfl
@[simp] theorem State.setPc_started (v : Addr) : (s.setPc v).started = s.started := rfl
@[simp] theorem State.setPc_params (v : Addr) : (s.setPc v).params = s.params := rfl
@[simp] theorem State.setPc_lastOutcome (v : Addr) : (s.setPc v).lastOutcome = s.lastOutcome := rfl
@[simp] theorem State.setPc_busLog (v : Addr) : (s.setPc v).busLog = s.busLog := rfl
@[simp] theorem State.setPc_schedule (v : Addr) : (s.setPc v).schedule = s.schedule := rfl
@[simp] theorem State.setPc_freeDraws (v : Addr) : (s.setPc v).freeDraws = s.freeDraws := rfl

/-! ### setSp -/

@[simp] theorem State.setSp_regs (v : Addr) : (s.setSp v).regs = s.regs := rfl
@[simp] theorem State.setSp_flags (v : Addr) : (s.setSp v).flags = s.flags := rfl
@[simp] theorem State.setSp_pc (v : Addr) : (s.setSp v).pc = s.pc := rfl
@[simp] theorem State.setSp_sp (v : Addr) : (s.setSp v).sp = v := rfl
@[simp] theorem State.setSp_mem (v : Addr) : (s.setSp v).mem = s.mem := rfl
@[simp] theorem State.setSp_stopRequested (v : Addr) : (s.setSp v).stopRequested = s.stopRequested := rfl
@[simp] theorem State.setSp_runState (v : Addr) : (s.setSp v).runState = s.runState := rfl
@[simp] theorem State.setSp_busBroken (v : Addr) : (s.setSp v).busBroken = s.busBroken := rfl
@[simp] theorem State.setSp_started (v : Addr) : (s.setSp v).started = s.started := rfl
@[simp] theorem State.setSp_params (v : Addr) : (s.setSp v).params = s.params := rfl
@[simp] theorem State.setSp_lastOutcome (v : Addr) : (s.setSp v).lastOutcome = s.lastOutcome := rfl
@[simp] theorem State.setSp_busLog (v : Addr) : (s.setSp v).busLog = s.busLog := rfl
@[simp] theorem State.setSp_schedule (v : Addr) : (s.setSp v).schedule = s.schedule := rfl
@[simp] theorem State.setSp_freeDraws (v : Addr) : (s.setSp v).freeDraws = s.freeDraws := rfl

/-! ### logged -/

@[simp] theorem State.logged_regs (e : BusEvent) : (s.logged e).regs = s.regs := rfl
@[simp] theorem State.logged_flags (e : BusEvent) : (s.logged e).flags = s.flags := rfl
@[simp] theorem State.logged_pc (e : BusEvent) : (s.logged e).pc = s.pc := rfl
@[simp] theorem State.logged_sp (e : BusEvent) : (s.logged e).sp = s.sp := rfl
@[simp] theorem State.logged_mem (e : BusEvent) : (s.logged e).mem = s.mem := rfl
@[simp] theorem State.logged_stopRequested (e : BusEvent) : (s.logged e).stopRequested = s.stopRequested := rfl
@[simp] theorem State.logged_runState (e : BusEvent) : (s.logged e).runState = s.runState := rfl
@[simp] theorem State.logged_busBroken (e : BusEvent) : (s.logged e).busBroken = s.busBroken := rfl
@[simp] theorem State.logged_started (e : BusEvent) : (s.logged e).started = s.started := rfl
@[simp] theorem State.logged_params (e : BusEvent) : (s.logged e).params = s.params := rfl
@[simp] theorem State.logged_lastOutcome (e : BusEvent) : (s.logged e).lastOutcome = s.lastOutcome := rfl
@[simp] theorem State.logged_busLog (e : BusEvent) : (s.logged e).busLog = e :: s.busLog := rfl
@[simp] theorem State.logged_schedule (e : BusEvent) : (s.logged e).schedule = s.schedule := rfl
@[simp] theorem State.logged_freeDraws (e : BusEvent) : (s.logged e).freeDraws = s.freeDraws := rfl

/-! ### returning -/

@[simp] theorem State.returning_regs (o : StepOutcome) : (s.returning o).regs = s.regs := rfl
@[simp] theorem State.returning_flags (o : StepOutcome) : (s.returning o).flags = s.flags := rfl
@[simp] theorem State.returning_pc (o : StepOutcome) : (s.returning o).pc = s.pc := rfl
@[simp] theorem State.returning_sp (o : StepOutcome) : (s.returning o).sp = s.sp := rfl
@[simp] theorem State.returning_mem (o : StepOutcome) : (s.returning o).mem = s.mem := rfl
@[simp] theorem State.returning_stopRequested (o : StepOutcome) : (s.returning o).stopRequested = s.stopRequested := rfl
@[simp] theorem State.returning_runState (o : StepOutcome) : (s.returning o).runState = s.runState := rfl
@[simp] theorem State.returning_busBroken (o : StepOutcome) : (s.returning o).busBroken = s.busBroken := rfl
@[simp] theorem State.returning_started (o : StepOutcome) : (s.returning o).started = s.started := rfl
@[simp] theorem State.returning_params (o : StepOutcome) : (s.returning o).params = s.params := rfl
@[simp] theorem State.returning_lastOutcome (o : StepOutcome) : (s.returning o).lastOutcome = some o := rfl
@[simp] theorem State.returning_busLog (o : StepOutcome) : (s.returning o).busLog = s.busLog := rfl
@[simp] theorem State.returning_schedule (o : StepOutcome) : (s.returning o).schedule = s.schedule := rfl
@[simp] theorem State.returning_freeDraws (o : StepOutcome) : (s.returning o).freeDraws = s.freeDraws := rfl

/-! ### afterAgentRead -/

@[simp] theorem State.afterAgentRead_regs (g : Agent) (a : Addr) : (s.afterAgentRead g a).regs = s.regs := rfl
@[simp] theorem State.afterAgentRead_flags (g : Agent) (a : Addr) : (s.afterAgentRead g a).flags = s.flags := rfl
@[simp] theorem State.afterAgentRead_pc (g : Agent) (a : Addr) : (s.afterAgentRead g a).pc = s.pc := rfl
@[simp] theorem State.afterAgentRead_sp (g : Agent) (a : Addr) : (s.afterAgentRead g a).sp = s.sp := rfl
@[simp] theorem State.afterAgentRead_mem (g : Agent) (a : Addr) : (s.afterAgentRead g a).mem = s.mem := rfl
@[simp] theorem State.afterAgentRead_stopRequested (g : Agent) (a : Addr) : (s.afterAgentRead g a).stopRequested = s.stopRequested := rfl
@[simp] theorem State.afterAgentRead_runState (g : Agent) (a : Addr) : (s.afterAgentRead g a).runState = s.runState := rfl
@[simp] theorem State.afterAgentRead_busBroken (g : Agent) (a : Addr) : (s.afterAgentRead g a).busBroken = s.busBroken := rfl
@[simp] theorem State.afterAgentRead_started (g : Agent) (a : Addr) : (s.afterAgentRead g a).started = s.started := rfl
@[simp] theorem State.afterAgentRead_params (g : Agent) (a : Addr) : (s.afterAgentRead g a).params = s.params := rfl
@[simp] theorem State.afterAgentRead_lastOutcome (g : Agent) (a : Addr) : (s.afterAgentRead g a).lastOutcome = s.lastOutcome := rfl
@[simp] theorem State.afterAgentRead_busLog (g : Agent) (a : Addr) : (s.afterAgentRead g a).busLog = ⟨g, .read, a, s.mem.read a⟩ :: s.busLog := rfl
@[simp] theorem State.afterAgentRead_schedule (g : Agent) (a : Addr) : (s.afterAgentRead g a).schedule = s.schedule := rfl
@[simp] theorem State.afterAgentRead_freeDraws (g : Agent) (a : Addr) : (s.afterAgentRead g a).freeDraws = s.freeDraws := rfl

/-! ### afterAgentWrite -/

@[simp] theorem State.afterAgentWrite_regs (g : Agent) (a : Addr) (v : Byte) : (s.afterAgentWrite g a v).regs = s.regs := rfl
@[simp] theorem State.afterAgentWrite_flags (g : Agent) (a : Addr) (v : Byte) : (s.afterAgentWrite g a v).flags = s.flags := rfl
@[simp] theorem State.afterAgentWrite_pc (g : Agent) (a : Addr) (v : Byte) : (s.afterAgentWrite g a v).pc = s.pc := rfl
@[simp] theorem State.afterAgentWrite_sp (g : Agent) (a : Addr) (v : Byte) : (s.afterAgentWrite g a v).sp = s.sp := rfl
@[simp] theorem State.afterAgentWrite_mem (g : Agent) (a : Addr) (v : Byte) : (s.afterAgentWrite g a v).mem = s.mem.write a v := rfl
@[simp] theorem State.afterAgentWrite_stopRequested (g : Agent) (a : Addr) (v : Byte) : (s.afterAgentWrite g a v).stopRequested = s.stopRequested := rfl
@[simp] theorem State.afterAgentWrite_runState (g : Agent) (a : Addr) (v : Byte) : (s.afterAgentWrite g a v).runState = s.runState := rfl
@[simp] theorem State.afterAgentWrite_busBroken (g : Agent) (a : Addr) (v : Byte) : (s.afterAgentWrite g a v).busBroken = s.busBroken := rfl
@[simp] theorem State.afterAgentWrite_started (g : Agent) (a : Addr) (v : Byte) : (s.afterAgentWrite g a v).started = s.started := rfl
@[simp] theorem State.afterAgentWrite_params (g : Agent) (a : Addr) (v : Byte) : (s.afterAgentWrite g a v).params = s.params := rfl
@[simp] theorem State.afterAgentWrite_lastOutcome (g : Agent) (a : Addr) (v : Byte) : (s.afterAgentWrite g a v).lastOutcome = s.lastOutcome := rfl
@[simp] theorem State.afterAgentWrite_busLog (g : Agent) (a : Addr) (v : Byte) : (s.afterAgentWrite g a v).busLog = ⟨g, .write, a, v⟩ :: s.busLog := rfl
@[simp] theorem State.afterAgentWrite_schedule (g : Agent) (a : Addr) (v : Byte) : (s.afterAgentWrite g a v).schedule = s.schedule := rfl
@[simp] theorem State.afterAgentWrite_freeDraws (g : Agent) (a : Addr) (v : Byte) : (s.afterAgentWrite g a v).freeDraws = s.freeDraws := rfl

/-! ### raiseTerminal -/

@[simp] theorem State.raiseTerminal_regs (t : Terminal) : (s.raiseTerminal t).regs = s.regs := rfl
@[simp] theorem State.raiseTerminal_flags (t : Terminal) : (s.raiseTerminal t).flags = s.flags := rfl
@[simp] theorem State.raiseTerminal_pc (t : Terminal) : (s.raiseTerminal t).pc = s.pc := rfl
@[simp] theorem State.raiseTerminal_sp (t : Terminal) : (s.raiseTerminal t).sp = s.sp := rfl
@[simp] theorem State.raiseTerminal_mem (t : Terminal) : (s.raiseTerminal t).mem = s.mem := rfl
@[simp] theorem State.raiseTerminal_stopRequested (t : Terminal) : (s.raiseTerminal t).stopRequested = s.stopRequested := rfl
@[simp] theorem State.raiseTerminal_runState (t : Terminal) : (s.raiseTerminal t).runState = .faulted t := rfl
@[simp] theorem State.raiseTerminal_busBroken (t : Terminal) : (s.raiseTerminal t).busBroken = s.busBroken := rfl
@[simp] theorem State.raiseTerminal_started (t : Terminal) : (s.raiseTerminal t).started = s.started := rfl
@[simp] theorem State.raiseTerminal_params (t : Terminal) : (s.raiseTerminal t).params = s.params := rfl
@[simp] theorem State.raiseTerminal_lastOutcome (t : Terminal) : (s.raiseTerminal t).lastOutcome = some (.faulted t) := rfl
@[simp] theorem State.raiseTerminal_busLog (t : Terminal) : (s.raiseTerminal t).busLog = s.busLog := rfl
@[simp] theorem State.raiseTerminal_schedule (t : Terminal) : (s.raiseTerminal t).schedule = s.schedule := rfl
@[simp] theorem State.raiseTerminal_freeDraws (t : Terminal) : (s.raiseTerminal t).freeDraws = s.freeDraws := rfl

/-! ### scrambled -/

@[simp] theorem State.scrambled_regs : s.scrambled.regs = Regs.free s.freeDraws := rfl
@[simp] theorem State.scrambled_flags : s.scrambled.flags = Flags.free s.freeDraws := rfl
@[simp] theorem State.scrambled_pc : s.scrambled.pc = Config.freeAddr s.freeDraws 0 := rfl
@[simp] theorem State.scrambled_sp : s.scrambled.sp = Config.freeAddr s.freeDraws 1 := rfl
@[simp] theorem State.scrambled_mem : s.scrambled.mem = Memory.ofCells (Config.freeCells s.freeDraws) := rfl
@[simp] theorem State.scrambled_stopRequested : s.scrambled.stopRequested = s.stopRequested := rfl
@[simp] theorem State.scrambled_runState : s.scrambled.runState = s.runState := rfl
@[simp] theorem State.scrambled_busBroken : s.scrambled.busBroken = s.busBroken := rfl
@[simp] theorem State.scrambled_started : s.scrambled.started = s.started := rfl
@[simp] theorem State.scrambled_params : s.scrambled.params = s.params := rfl
@[simp] theorem State.scrambled_lastOutcome : s.scrambled.lastOutcome = s.lastOutcome := rfl
@[simp] theorem State.scrambled_busLog : s.scrambled.busLog = s.busLog := rfl
@[simp] theorem State.scrambled_schedule : s.scrambled.schedule = s.schedule := rfl
@[simp] theorem State.scrambled_freeDraws : s.scrambled.freeDraws = s.freeDraws + 1 := rfl

/-! ### markStarted -/

@[simp] theorem State.markStarted_regs : s.markStarted.regs = s.regs := rfl
@[simp] theorem State.markStarted_flags : s.markStarted.flags = s.flags := rfl
@[simp] theorem State.markStarted_pc : s.markStarted.pc = s.pc := rfl
@[simp] theorem State.markStarted_sp : s.markStarted.sp = s.sp := rfl
@[simp] theorem State.markStarted_mem : s.markStarted.mem = s.mem := rfl
@[simp] theorem State.markStarted_stopRequested : s.markStarted.stopRequested = s.stopRequested := rfl
@[simp] theorem State.markStarted_runState : s.markStarted.runState = s.runState := rfl
@[simp] theorem State.markStarted_busBroken : s.markStarted.busBroken = s.busBroken := rfl
@[simp] theorem State.markStarted_started : s.markStarted.started = true := rfl
@[simp] theorem State.markStarted_params : s.markStarted.params = s.params := rfl
@[simp] theorem State.markStarted_lastOutcome : s.markStarted.lastOutcome = s.lastOutcome := rfl
@[simp] theorem State.markStarted_busLog : s.markStarted.busLog = s.busLog := rfl
@[simp] theorem State.markStarted_schedule : s.markStarted.schedule = s.schedule := rfl
@[simp] theorem State.markStarted_freeDraws : s.markStarted.freeDraws = s.freeDraws := rfl

/-! ### advance -/

@[simp] theorem State.advance_regs (d : Descriptor) : (s.advance d).regs = s.regs := rfl
@[simp] theorem State.advance_flags (d : Descriptor) : (s.advance d).flags = s.flags := rfl
@[simp] theorem State.advance_pc (d : Descriptor) : (s.advance d).pc = s.pc + 1 + BitVec.ofNat 16 d.extra := rfl
@[simp] theorem State.advance_sp (d : Descriptor) : (s.advance d).sp = s.sp := rfl
@[simp] theorem State.advance_mem (d : Descriptor) : (s.advance d).mem = s.mem := rfl
@[simp] theorem State.advance_stopRequested (d : Descriptor) : (s.advance d).stopRequested = s.stopRequested := rfl
@[simp] theorem State.advance_runState (d : Descriptor) : (s.advance d).runState = s.runState := rfl
@[simp] theorem State.advance_busBroken (d : Descriptor) : (s.advance d).busBroken = s.busBroken := rfl
@[simp] theorem State.advance_started (d : Descriptor) : (s.advance d).started = s.started := rfl
@[simp] theorem State.advance_params (d : Descriptor) : (s.advance d).params = s.params := rfl
@[simp] theorem State.advance_lastOutcome (d : Descriptor) : (s.advance d).lastOutcome = s.lastOutcome := rfl
@[simp] theorem State.advance_busLog (d : Descriptor) : (s.advance d).busLog = s.busLog := rfl
@[simp] theorem State.advance_schedule (d : Descriptor) : (s.advance d).schedule = s.schedule := rfl
@[simp] theorem State.advance_freeDraws (d : Descriptor) : (s.advance d).freeDraws = s.freeDraws := rfl

/-! ### accumulate -/

@[simp] theorem State.accumulate_regs (r : Result8) : (s.accumulate r).regs = s.regs.put .a r.out := rfl
@[simp] theorem State.accumulate_flags (r : Result8) : (s.accumulate r).flags = r.flags := rfl
@[simp] theorem State.accumulate_pc (r : Result8) : (s.accumulate r).pc = s.pc := rfl
@[simp] theorem State.accumulate_sp (r : Result8) : (s.accumulate r).sp = s.sp := rfl
@[simp] theorem State.accumulate_mem (r : Result8) : (s.accumulate r).mem = s.mem := rfl
@[simp] theorem State.accumulate_stopRequested (r : Result8) : (s.accumulate r).stopRequested = s.stopRequested := rfl
@[simp] theorem State.accumulate_runState (r : Result8) : (s.accumulate r).runState = s.runState := rfl
@[simp] theorem State.accumulate_busBroken (r : Result8) : (s.accumulate r).busBroken = s.busBroken := rfl
@[simp] theorem State.accumulate_started (r : Result8) : (s.accumulate r).started = s.started := rfl
@[simp] theorem State.accumulate_params (r : Result8) : (s.accumulate r).params = s.params := rfl
@[simp] theorem State.accumulate_lastOutcome (r : Result8) : (s.accumulate r).lastOutcome = s.lastOutcome := rfl
@[simp] theorem State.accumulate_busLog (r : Result8) : (s.accumulate r).busLog = s.busLog := rfl
@[simp] theorem State.accumulate_schedule (r : Result8) : (s.accumulate r).schedule = s.schedule := rfl
@[simp] theorem State.accumulate_freeDraws (r : Result8) : (s.accumulate r).freeDraws = s.freeDraws := rfl

/-! ### putResult -/

@[simp] theorem State.putResult_regs (r : Reg8) (x : Result8) : (s.putResult r x).regs = s.regs.put r x.out := rfl
@[simp] theorem State.putResult_flags (r : Reg8) (x : Result8) : (s.putResult r x).flags = x.flags := rfl
@[simp] theorem State.putResult_pc (r : Reg8) (x : Result8) : (s.putResult r x).pc = s.pc := rfl
@[simp] theorem State.putResult_sp (r : Reg8) (x : Result8) : (s.putResult r x).sp = s.sp := rfl
@[simp] theorem State.putResult_mem (r : Reg8) (x : Result8) : (s.putResult r x).mem = s.mem := rfl
@[simp] theorem State.putResult_stopRequested (r : Reg8) (x : Result8) : (s.putResult r x).stopRequested = s.stopRequested := rfl
@[simp] theorem State.putResult_runState (r : Reg8) (x : Result8) : (s.putResult r x).runState = s.runState := rfl
@[simp] theorem State.putResult_busBroken (r : Reg8) (x : Result8) : (s.putResult r x).busBroken = s.busBroken := rfl
@[simp] theorem State.putResult_started (r : Reg8) (x : Result8) : (s.putResult r x).started = s.started := rfl
@[simp] theorem State.putResult_params (r : Reg8) (x : Result8) : (s.putResult r x).params = s.params := rfl
@[simp] theorem State.putResult_lastOutcome (r : Reg8) (x : Result8) : (s.putResult r x).lastOutcome = s.lastOutcome := rfl
@[simp] theorem State.putResult_busLog (r : Reg8) (x : Result8) : (s.putResult r x).busLog = s.busLog := rfl
@[simp] theorem State.putResult_schedule (r : Reg8) (x : Result8) : (s.putResult r x).schedule = s.schedule := rfl
@[simp] theorem State.putResult_freeDraws (r : Reg8) (x : Result8) : (s.putResult r x).freeDraws = s.freeDraws := rfl

/-! ### setPair -/

@[simp] theorem State.setPair_pc (p : Pair) (v : Addr) : (s.setPair p v).pc = s.pc := by cases p <;> rfl
@[simp] theorem State.setPair_sp (p : Pair) (v : Addr) : (s.setPair p v).sp = s.sp := by cases p <;> rfl
@[simp] theorem State.setPair_mem (p : Pair) (v : Addr) : (s.setPair p v).mem = s.mem := by cases p <;> rfl
@[simp] theorem State.setPair_stopRequested (p : Pair) (v : Addr) : (s.setPair p v).stopRequested = s.stopRequested := by cases p <;> rfl
@[simp] theorem State.setPair_runState (p : Pair) (v : Addr) : (s.setPair p v).runState = s.runState := by cases p <;> rfl
@[simp] theorem State.setPair_busBroken (p : Pair) (v : Addr) : (s.setPair p v).busBroken = s.busBroken := by cases p <;> rfl
@[simp] theorem State.setPair_started (p : Pair) (v : Addr) : (s.setPair p v).started = s.started := by cases p <;> rfl
@[simp] theorem State.setPair_params (p : Pair) (v : Addr) : (s.setPair p v).params = s.params := by cases p <;> rfl
@[simp] theorem State.setPair_lastOutcome (p : Pair) (v : Addr) : (s.setPair p v).lastOutcome = s.lastOutcome := by cases p <;> rfl
@[simp] theorem State.setPair_busLog (p : Pair) (v : Addr) : (s.setPair p v).busLog = s.busLog := by cases p <;> rfl
@[simp] theorem State.setPair_schedule (p : Pair) (v : Addr) : (s.setPair p v).schedule = s.schedule := by cases p <;> rfl
@[simp] theorem State.setPair_freeDraws (p : Pair) (v : Addr) : (s.setPair p v).freeDraws = s.freeDraws := by cases p <;> rfl

/-! ### setWide -/

@[simp] theorem State.setWide_flags (p : Wide) (v : Addr) : (s.setWide p v).flags = s.flags := by cases p <;> rfl
@[simp] theorem State.setWide_pc (p : Wide) (v : Addr) : (s.setWide p v).pc = s.pc := by cases p <;> rfl
@[simp] theorem State.setWide_mem (p : Wide) (v : Addr) : (s.setWide p v).mem = s.mem := by cases p <;> rfl
@[simp] theorem State.setWide_stopRequested (p : Wide) (v : Addr) : (s.setWide p v).stopRequested = s.stopRequested := by cases p <;> rfl
@[simp] theorem State.setWide_runState (p : Wide) (v : Addr) : (s.setWide p v).runState = s.runState := by cases p <;> rfl
@[simp] theorem State.setWide_busBroken (p : Wide) (v : Addr) : (s.setWide p v).busBroken = s.busBroken := by cases p <;> rfl
@[simp] theorem State.setWide_started (p : Wide) (v : Addr) : (s.setWide p v).started = s.started := by cases p <;> rfl
@[simp] theorem State.setWide_params (p : Wide) (v : Addr) : (s.setWide p v).params = s.params := by cases p <;> rfl
@[simp] theorem State.setWide_lastOutcome (p : Wide) (v : Addr) : (s.setWide p v).lastOutcome = s.lastOutcome := by cases p <;> rfl
@[simp] theorem State.setWide_busLog (p : Wide) (v : Addr) : (s.setWide p v).busLog = s.busLog := by cases p <;> rfl
@[simp] theorem State.setWide_schedule (p : Wide) (v : Addr) : (s.setWide p v).schedule = s.schedule := by cases p <;> rfl
@[simp] theorem State.setWide_freeDraws (p : Wide) (v : Addr) : (s.setWide p v).freeDraws = s.freeDraws := by cases p <;> rfl

/-! ### stepIndirect -/

@[simp] theorem State.stepIndirect_flags (p : Indirect) (a : Addr) : (s.stepIndirect p a).flags = s.flags := by cases p <;> rfl
@[simp] theorem State.stepIndirect_pc (p : Indirect) (a : Addr) : (s.stepIndirect p a).pc = s.pc := by cases p <;> rfl
@[simp] theorem State.stepIndirect_sp (p : Indirect) (a : Addr) : (s.stepIndirect p a).sp = s.sp := by cases p <;> rfl
@[simp] theorem State.stepIndirect_mem (p : Indirect) (a : Addr) : (s.stepIndirect p a).mem = s.mem := by cases p <;> rfl
@[simp] theorem State.stepIndirect_stopRequested (p : Indirect) (a : Addr) : (s.stepIndirect p a).stopRequested = s.stopRequested := by cases p <;> rfl
@[simp] theorem State.stepIndirect_runState (p : Indirect) (a : Addr) : (s.stepIndirect p a).runState = s.runState := by cases p <;> rfl
@[simp] theorem State.stepIndirect_busBroken (p : Indirect) (a : Addr) : (s.stepIndirect p a).busBroken = s.busBroken := by cases p <;> rfl
@[simp] theorem State.stepIndirect_started (p : Indirect) (a : Addr) : (s.stepIndirect p a).started = s.started := by cases p <;> rfl
@[simp] theorem State.stepIndirect_params (p : Indirect) (a : Addr) : (s.stepIndirect p a).params = s.params := by cases p <;> rfl
@[simp] theorem State.stepIndirect_lastOutcome (p : Indirect) (a : Addr) : (s.stepIndirect p a).lastOutcome = s.lastOutcome := by cases p <;> rfl
@[simp] theorem State.stepIndirect_busLog (p : Indirect) (a : Addr) : (s.stepIndirect p a).busLog = s.busLog := by cases p <;> rfl
@[simp] theorem State.stepIndirect_schedule (p : Indirect) (a : Addr) : (s.stepIndirect p a).schedule = s.schedule := by cases p <;> rfl
@[simp] theorem State.stepIndirect_freeDraws (p : Indirect) (a : Addr) : (s.stepIndirect p a).freeDraws = s.freeDraws := by cases p <;> rfl

/-! ### The pairs, by halves -/

@[simp] theorem State.setPair_af_regs (v : Addr) : (s.setPair .af v).regs = s.regs.put .a (lowByte v) := rfl
@[simp] theorem State.setPair_bc_regs (v : Addr) :
    (s.setPair .bc v).regs = (s.regs.put .b (lowByte v)).put .c (highByte v) := rfl
@[simp] theorem State.setPair_de_regs (v : Addr) :
    (s.setPair .de v).regs = (s.regs.put .d (lowByte v)).put .e (highByte v) := rfl
@[simp] theorem State.setPair_hl_regs (v : Addr) :
    (s.setPair .hl v).regs = (s.regs.put .h (lowByte v)).put .l (highByte v) := rfl
@[simp] theorem State.setPair_af_flags (v : Addr) : (s.setPair .af v).flags = Flags.ofByte (highByte v) := rfl
@[simp] theorem State.setPair_bc_flags (v : Addr) : (s.setPair .bc v).flags = s.flags := rfl
@[simp] theorem State.setPair_de_flags (v : Addr) : (s.setPair .de v).flags = s.flags := rfl
@[simp] theorem State.setPair_hl_flags (v : Addr) : (s.setPair .hl v).flags = s.flags := rfl
@[simp] theorem State.setWide_sp_regs (v : Addr) : (s.setWide .sp v).regs = s.regs := rfl
@[simp] theorem State.setWide_sp_sp (v : Addr) : (s.setWide .sp v).sp = v := rfl
@[simp] theorem State.setWide_bc_sp (v : Addr) : (s.setWide .bc v).sp = s.sp := rfl
@[simp] theorem State.setWide_de_sp (v : Addr) : (s.setWide .de v).sp = s.sp := rfl
@[simp] theorem State.setWide_hl_sp (v : Addr) : (s.setWide .hl v).sp = s.sp := rfl

/-! ### The register file -/

@[simp] theorem Regs.get_put (g : Regs) (r r' : Reg8) (v : Byte) :
    (g.put r v).get r' = if r' = r then v else g.get r' := by
  cases r <;> cases r' <;> rfl

theorem Regs.get_put_same (g : Regs) (r : Reg8) (v : Byte) : (g.put r v).get r = v := by simp

theorem Regs.get_put_other (g : Regs) {r r' : Reg8} (v : Byte) (h : r' ≠ r) : (g.put r v).get r' = g.get r' := by
  simp [h]

/-- Two register files are equal when each register is. -/
theorem Regs.ext_get {g g' : Regs} (h : ∀ r, g.get r = g'.get r) : g = g' := by
  have ha := h .a; have hb := h .b; have hc := h .c; have hd := h .d; have he := h .e; have hh := h .h; have hl := h .l
  cases g; cases g'
  simp only [Regs.get] at ha hb hc hd he hh hl
  simp [ha, hb, hc, hd, he, hh, hl]

theorem State.reg_eq (r : Reg8) : s.reg r = s.regs.get r := rfl

@[simp] theorem lowByte_joinBytes (hi lo : Byte) : lowByte (joinBytes hi lo) = lo := by
  unfold lowByte joinBytes
  ext i hi'
  simp only [BitVec.getElem_extractLsb', Nat.zero_add, BitVec.getLsbD_append, hi', if_true]
  exact BitVec.getLsbD_eq_getElem hi'

@[simp] theorem highByte_joinBytes (hi lo : Byte) : highByte (joinBytes hi lo) = hi := by
  unfold highByte joinBytes
  ext i hi'
  simp only [BitVec.getElem_extractLsb', BitVec.getLsbD_append]
  rw [if_neg (by omega), show 8 + i - 8 = i by omega]
  exact BitVec.getLsbD_eq_getElem hi'

@[simp] theorem joinBytes_high_low (v : Addr) : joinBytes (highByte v) (lowByte v) = v := by
  unfold joinBytes highByte lowByte
  ext i hi'
  simp only [BitVec.getElem_append]
  split
  · simp [BitVec.getLsbD_eq_getElem hi']
  · simp only [BitVec.getElem_extractLsb']
    rw [show 8 + (i - 8) = i by omega, BitVec.getLsbD_eq_getElem hi']

/-! ### Pairs: writing and reading back (R20 to R22) -/

theorem State.pair_setPair_bc (v : Addr) : (s.setPair .bc v).pair .bc = v := by
  simp [State.pair, Regs.put]

theorem State.pair_setPair_de (v : Addr) : (s.setPair .de v).pair .de = v := by
  simp [State.pair, Regs.put]

theorem State.pair_setPair_hl (v : Addr) : (s.setPair .hl v).pair .hl = v := by
  simp [State.pair, Regs.put]

end Sys2Proof.Machine
end

