-- ==== Sys2Proof/Laws/Memory.lean ====
section
/-! SUPPORT. The laws of the storage (spec/20_memory.md R35, R36): a read after a write, and that every operation keeps the
canonical form, in which equal memories are equal data. -/

namespace Sys2Proof.Machine

/-! ### Reading after writing: for every list, canonical or not -/

theorem Memory.find_erase_same (m : Memory) (a : Nat) : (m.erase a).find a = Memory.unlisted := by
  induction m with
  | nil => rfl
  | cons cell rest ih =>
    obtain ⟨k, v⟩ := cell
    by_cases h : k = a <;> simp_all [Memory.erase, Memory.find]

theorem Memory.find_erase_other (m : Memory) {a b : Nat} (h : b ≠ a) : (m.erase a).find b = m.find b := by
  induction m with
  | nil => rfl
  | cons cell rest ih =>
    obtain ⟨k, v⟩ := cell
    by_cases hk : k = a
    · subst hk
      simp_all [Memory.erase, Memory.find, Ne.symm h]
    · by_cases hb : k = b <;> simp_all [Memory.erase, Memory.find]

/-- No cell of the list is at `a`. -/
def Memory.lacks (m : Memory) (a : Nat) : Prop := ∀ cell ∈ m, cell.1 ≠ a

theorem Memory.lacks_erase (m : Memory) (a : Nat) : (m.erase a).lacks a := by
  intro cell h
  simp only [Memory.erase, List.mem_filter] at h
  simpa using h.2

theorem Memory.find_insert_same {m : Memory} {a : Nat} (v : Byte) (h : m.lacks a) : (m.insert a v).find a = v := by
  induction m with
  | nil => simp [Memory.insert, Memory.find]
  | cons cell rest ih =>
    obtain ⟨k, w⟩ := cell
    have hk : k ≠ a := h (k, w) (by simp)
    have hr : Memory.lacks rest a := fun c hc => h c (List.mem_cons_of_mem _ hc)
    simp only [Memory.insert]
    split
    · simp [Memory.find]
    · simp [Memory.find, hk, ih hr]

theorem Memory.find_insert_other (m : Memory) {a b : Nat} (v : Byte) (h : b ≠ a) : (m.insert a v).find b = m.find b := by
  induction m with
  | nil => simp [Memory.insert, Memory.find, Ne.symm h]
  | cons cell rest ih =>
    obtain ⟨k, w⟩ := cell
    simp only [Memory.insert]
    split
    · simp [Memory.find, Ne.symm h]
    · simp [Memory.find, ih]

@[simp] theorem Memory.read_write_same (m : Memory) (a : Addr) (v : Byte) : (m.write a v).read a = v := by
  unfold Memory.write Memory.read
  split
  · next h => rw [Memory.find_erase_same, h]
  · exact Memory.find_insert_same v (Memory.lacks_erase m _)

theorem Memory.read_write_other (m : Memory) {a b : Addr} (v : Byte) (h : b ≠ a) : (m.write a v).read b = m.read b := by
  have hn : b.toNat ≠ a.toNat := fun e => h (BitVec.eq_of_toNat_eq e)
  unfold Memory.write Memory.read
  split
  · exact Memory.find_erase_other m hn
  · rw [Memory.find_insert_other _ v hn, Memory.find_erase_other m hn]

theorem Memory.read_write (m : Memory) (a b : Addr) (v : Byte) :
    (m.write a v).read b = if b = a then v else m.read b := by
  split
  · next h => rw [h, Memory.read_write_same]
  · next h => exact Memory.read_write_other m v h

@[simp] theorem Memory.read_nil (a : Addr) : Memory.read [] a = Memory.unlisted := rfl

/-! ### The canonical form is kept -/

theorem Memory.risesFrom_mono {m : Memory} {lo hi : Nat} (h : m.risesFrom hi = true) (hle : lo ≤ hi) :
    m.risesFrom lo = true := by
  cases m with
  | nil => rfl
  | cons cell rest =>
    obtain ⟨k, v⟩ := cell
    simp only [Memory.risesFrom, Bool.and_eq_true, decide_eq_true_eq] at h ⊢
    exact ⟨⟨⟨by omega, h.1.1.2⟩, h.1.2⟩, h.2⟩

theorem Memory.risesFrom_erase {m : Memory} {lo : Nat} (a : Nat) (h : m.risesFrom lo = true) :
    (m.erase a).risesFrom lo = true := by
  induction m generalizing lo with
  | nil => rfl
  | cons cell rest ih =>
    obtain ⟨k, v⟩ := cell
    simp only [Memory.risesFrom, Bool.and_eq_true, decide_eq_true_eq] at h
    by_cases hk : k = a
    · have : Memory.erase ((k, v) :: rest) a = Memory.erase rest a := by simp [Memory.erase, hk]
      rw [this]
      exact Memory.risesFrom_mono (ih h.2) (by omega)
    · have : Memory.erase ((k, v) :: rest) a = (k, v) :: Memory.erase rest a := by simp [Memory.erase, hk]
      rw [this]
      simp only [Memory.risesFrom, Bool.and_eq_true, decide_eq_true_eq]
      exact ⟨h.1, ih h.2⟩

theorem Memory.risesFrom_insert {m : Memory} {lo a : Nat} {v : Byte} (h : m.risesFrom lo = true) (hl : m.lacks a)
    (hlo : lo ≤ a) (ha : a < 0x10000) (hv : v ≠ Memory.unlisted) : (m.insert a v).risesFrom lo = true := by
  induction m generalizing lo with
  | nil => simp [Memory.insert, Memory.risesFrom, hlo, ha, hv]
  | cons cell rest ih =>
    obtain ⟨k, w⟩ := cell
    have hk : k ≠ a := hl (k, w) (by simp)
    have hr : Memory.lacks rest a := fun c hc => hl c (List.mem_cons_of_mem _ hc)
    simp only [Memory.risesFrom, Bool.and_eq_true, decide_eq_true_eq] at h
    simp only [Memory.insert]
    split
    · next hak =>
      simp only [Memory.risesFrom, Bool.and_eq_true, decide_eq_true_eq]
      exact ⟨⟨⟨hlo, ha⟩, by simpa using hv⟩, ⟨⟨by omega, h.1.1.2⟩, h.1.2⟩, h.2⟩
    · next hak =>
      simp only [Memory.risesFrom, Bool.and_eq_true, decide_eq_true_eq]
      exact ⟨h.1, ih h.2 hr (by omega)⟩

theorem Memory.wf_write {m : Memory} (h : m.wf = true) (a : Addr) (v : Byte) : (m.write a v).wf = true := by
  unfold Memory.write Memory.wf at *
  split
  · exact Memory.risesFrom_erase _ h
  · next hv =>
    exact Memory.risesFrom_insert (Memory.risesFrom_erase _ h) (Memory.lacks_erase _ _) (Nat.zero_le _) a.isLt hv

theorem Memory.wf_nil : Memory.wf [] = true := rfl

theorem Memory.wf_ofCells (cells : List (Addr × Byte)) : (Memory.ofCells cells).wf = true := by
  induction cells with
  | nil => rfl
  | cons c rest ih => exact Memory.wf_write ih _ _

theorem Memory.wf_load {m : Memory} (h : m.wf = true) (a : Addr) (bytes : List Byte) : (m.load a bytes).wf = true := by
  induction bytes generalizing m a with
  | nil => exact h
  | cons b rest ih => exact ih (Memory.wf_write h a b) (a + 1)

/-- A cell of a canonical list is what a read of its address finds. -/
theorem Memory.find_of_risesFrom {m : Memory} {lo a : Nat} (h : m.risesFrom lo = true) (ha : a < lo) :
    m.find a = Memory.unlisted := by
  induction m generalizing lo with
  | nil => rfl
  | cons cell rest ih =>
    obtain ⟨k, v⟩ := cell
    simp only [Memory.risesFrom, Bool.and_eq_true, decide_eq_true_eq] at h
    simp only [Memory.find]
    rw [if_neg (by omega)]
    exact ih h.2 (by omega)

end Sys2Proof.Machine
end

