-- ==== Sys2Proof/Laws/Bus.lean ====
section
/-! SUPPORT. The bus and the agents that share it, one lemma per shared operation: what a batch of other agents' events can do,
what each engine access does when it happens and when the bus is broken, and how each ends an instruction. -/

namespace Sys2Proof.Machine

variable (s : State)

/-! ### The other agents: registers, flags, outcome and parameters are out of their reach (R29) -/

@[simp] theorem State.applyExt_regs (e : ExtEvent) : (s.applyExt e).regs = s.regs := by
  cases e <;> simp only [State.applyExt] <;> (try split) <;> rfl

@[simp] theorem State.applyBatch_regs (l : List ExtEvent) : (s.applyBatch l).regs = s.regs := by
  induction l generalizing s with
  | nil => rfl
  | cons e rest ih => simp [State.applyBatch, ih]

@[simp] theorem State.applyExt_flags (e : ExtEvent) : (s.applyExt e).flags = s.flags := by
  cases e <;> simp only [State.applyExt] <;> (try split) <;> rfl

@[simp] theorem State.applyBatch_flags (l : List ExtEvent) : (s.applyBatch l).flags = s.flags := by
  induction l generalizing s with
  | nil => rfl
  | cons e rest ih => simp [State.applyBatch, ih]

@[simp] theorem State.applyExt_pc (e : ExtEvent) : (s.applyExt e).pc = s.pc := by
  cases e <;> simp only [State.applyExt] <;> (try split) <;> rfl

@[simp] theorem State.applyBatch_pc (l : List ExtEvent) : (s.applyBatch l).pc = s.pc := by
  induction l generalizing s with
  | nil => rfl
  | cons e rest ih => simp [State.applyBatch, ih]

@[simp] theorem State.applyExt_sp (e : ExtEvent) : (s.applyExt e).sp = s.sp := by
  cases e <;> simp only [State.applyExt] <;> (try split) <;> rfl

@[simp] theorem State.applyBatch_sp (l : List ExtEvent) : (s.applyBatch l).sp = s.sp := by
  induction l generalizing s with
  | nil => rfl
  | cons e rest ih => simp [State.applyBatch, ih]

@[simp] theorem State.applyExt_runState (e : ExtEvent) : (s.applyExt e).runState = s.runState := by
  cases e <;> simp only [State.applyExt] <;> (try split) <;> rfl

@[simp] theorem State.applyBatch_runState (l : List ExtEvent) : (s.applyBatch l).runState = s.runState := by
  induction l generalizing s with
  | nil => rfl
  | cons e rest ih => simp [State.applyBatch, ih]

@[simp] theorem State.applyExt_started (e : ExtEvent) : (s.applyExt e).started = s.started := by
  cases e <;> simp only [State.applyExt] <;> (try split) <;> rfl

@[simp] theorem State.applyBatch_started (l : List ExtEvent) : (s.applyBatch l).started = s.started := by
  induction l generalizing s with
  | nil => rfl
  | cons e rest ih => simp [State.applyBatch, ih]

@[simp] theorem State.applyExt_params (e : ExtEvent) : (s.applyExt e).params = s.params := by
  cases e <;> simp only [State.applyExt] <;> (try split) <;> rfl

@[simp] theorem State.applyBatch_params (l : List ExtEvent) : (s.applyBatch l).params = s.params := by
  induction l generalizing s with
  | nil => rfl
  | cons e rest ih => simp [State.applyBatch, ih]

@[simp] theorem State.applyExt_lastOutcome (e : ExtEvent) : (s.applyExt e).lastOutcome = s.lastOutcome := by
  cases e <;> simp only [State.applyExt] <;> (try split) <;> rfl

@[simp] theorem State.applyBatch_lastOutcome (l : List ExtEvent) : (s.applyBatch l).lastOutcome = s.lastOutcome := by
  induction l generalizing s with
  | nil => rfl
  | cons e rest ih => simp [State.applyBatch, ih]

@[simp] theorem State.applyExt_freeDraws (e : ExtEvent) : (s.applyExt e).freeDraws = s.freeDraws := by
  cases e <;> simp only [State.applyExt] <;> (try split) <;> rfl

@[simp] theorem State.applyBatch_freeDraws (l : List ExtEvent) : (s.applyBatch l).freeDraws = s.freeDraws := by
  induction l generalizing s with
  | nil => rfl
  | cons e rest ih => simp [State.applyBatch, ih]

@[simp] theorem State.applyExt_schedule (e : ExtEvent) : (s.applyExt e).schedule = s.schedule := by
  cases e <;> simp only [State.applyExt] <;> (try split) <;> rfl

@[simp] theorem State.applyBatch_schedule (l : List ExtEvent) : (s.applyBatch l).schedule = s.schedule := by
  induction l generalizing s with
  | nil => rfl
  | cons e rest ih => simp [State.applyBatch, ih]

@[simp] theorem State.admit_regs : s.admitOne.regs = s.regs := by
  unfold State.admitOne; split <;> simp

@[simp] theorem State.admits_regs (n : Nat) : (s.admits n).regs = s.regs := by
  induction n generalizing s with
  | zero => rfl
  | succ k ih => simp [State.admits, ih]

@[simp] theorem State.admit_flags : s.admitOne.flags = s.flags := by
  unfold State.admitOne; split <;> simp

@[simp] theorem State.admits_flags (n : Nat) : (s.admits n).flags = s.flags := by
  induction n generalizing s with
  | zero => rfl
  | succ k ih => simp [State.admits, ih]

@[simp] theorem State.admit_pc : s.admitOne.pc = s.pc := by
  unfold State.admitOne; split <;> simp

@[simp] theorem State.admits_pc (n : Nat) : (s.admits n).pc = s.pc := by
  induction n generalizing s with
  | zero => rfl
  | succ k ih => simp [State.admits, ih]

@[simp] theorem State.admit_sp : s.admitOne.sp = s.sp := by
  unfold State.admitOne; split <;> simp

@[simp] theorem State.admits_sp (n : Nat) : (s.admits n).sp = s.sp := by
  induction n generalizing s with
  | zero => rfl
  | succ k ih => simp [State.admits, ih]

@[simp] theorem State.admit_runState : s.admitOne.runState = s.runState := by
  unfold State.admitOne; split <;> simp

@[simp] theorem State.admits_runState (n : Nat) : (s.admits n).runState = s.runState := by
  induction n generalizing s with
  | zero => rfl
  | succ k ih => simp [State.admits, ih]

@[simp] theorem State.admit_started : s.admitOne.started = s.started := by
  unfold State.admitOne; split <;> simp

@[simp] theorem State.admits_started (n : Nat) : (s.admits n).started = s.started := by
  induction n generalizing s with
  | zero => rfl
  | succ k ih => simp [State.admits, ih]

@[simp] theorem State.admit_params : s.admitOne.params = s.params := by
  unfold State.admitOne; split <;> simp

@[simp] theorem State.admits_params (n : Nat) : (s.admits n).params = s.params := by
  induction n generalizing s with
  | zero => rfl
  | succ k ih => simp [State.admits, ih]

@[simp] theorem State.admit_lastOutcome : s.admitOne.lastOutcome = s.lastOutcome := by
  unfold State.admitOne; split <;> simp

@[simp] theorem State.admits_lastOutcome (n : Nat) : (s.admits n).lastOutcome = s.lastOutcome := by
  induction n generalizing s with
  | zero => rfl
  | succ k ih => simp [State.admits, ih]

@[simp] theorem State.admit_freeDraws : s.admitOne.freeDraws = s.freeDraws := by
  unfold State.admitOne; split <;> simp

@[simp] theorem State.admits_freeDraws (n : Nat) : (s.admits n).freeDraws = s.freeDraws := by
  induction n generalizing s with
  | zero => rfl
  | succ k ih => simp [State.admits, ih]

@[simp] theorem State.admit_schedule : s.admitOne.schedule = s.schedule.tail := by
  unfold State.admitOne; split <;> simp_all

theorem State.admit_nil (h : s.schedule = []) : s.admitOne = s := by simp [State.admitOne, h]

theorem State.admits_nil (h : s.schedule = []) (n : Nat) : s.admits n = s := by
  induction n with
  | zero => rfl
  | succ k ih => simp [State.admits, State.admit_nil s h, ih]

@[simp] theorem State.admits_zero : s.admits 0 = s := rfl

theorem State.admits_succ (n : Nat) : s.admits (n + 1) = s.admitOne.admits n := rfl

/-! ### A broken bus stays broken (R53) -/

@[simp] theorem State.applyExt_busBroken (e : ExtEvent) :
    (s.applyExt e).busBroken = (s.busBroken || decide (e = .breakBus)) := by
  cases e <;> simp only [State.applyExt] <;> (try split) <;> simp

@[simp] theorem State.applyBatch_busBroken (l : List ExtEvent) :
    (s.applyBatch l).busBroken = (s.busBroken || decide (ExtEvent.breakBus ∈ l)) := by
  induction l generalizing s with
  | nil => simp [State.applyBatch]
  | cons e rest ih =>
    simp only [State.applyBatch, ih, State.applyExt_busBroken, List.mem_cons]
    by_cases h : e = .breakBus <;> simp [h, eq_comm]

theorem State.admit_busBroken :
    s.admitOne.busBroken = (s.busBroken || decide (ExtEvent.breakBus ∈ s.schedule.headD [])) := by
  unfold State.admitOne; split <;> simp_all

theorem State.busBroken_of_admit (h : s.admitOne.busBroken = false) : s.busBroken = false := by
  rw [State.admit_busBroken, Bool.or_eq_false_iff] at h
  exact h.1

/-- Two states with the same schedule and the same bus condition meet the same bus at each later point. -/
theorem State.admit_busBroken_congr {s t : State} (hb : s.busBroken = t.busBroken) (hs : s.schedule = t.schedule) :
    s.admitOne.busBroken = t.admitOne.busBroken := by
  rw [State.admit_busBroken, State.admit_busBroken, hb, hs]

/-! ### What a batch leaves of the storage and of the record -/

/-- A batch writes the same bytes whatever else the bus holds. -/
theorem State.applyBatch_read_congr {s t : State} (l : List ExtEvent) (b : Addr) (hp : s.params = t.params)
    (h : s.mem.read b = t.mem.read b) : (s.applyBatch l).mem.read b = (t.applyBatch l).mem.read b := by
  induction l generalizing s t with
  | nil => exact h
  | cons e rest ih =>
    refine ih (by simp [hp]) ?_
    cases e <;> simp only [State.applyExt] <;> (try (rw [hp]; split)) <;> simp [Memory.read_write, h]

theorem State.admit_read_congr {s t : State} (b : Addr) (hs : s.schedule = t.schedule) (hp : s.params = t.params)
    (h : s.mem.read b = t.mem.read b) : s.admitOne.mem.read b = t.admitOne.mem.read b := by
  unfold State.admitOne
  rw [hs]
  split
  · exact h
  · exact State.applyBatch_read_congr _ b hp h

theorem State.applyExt_wf (h : s.mem.wf = true) (e : ExtEvent) : (s.applyExt e).mem.wf = true := by
  cases e <;> simp only [State.applyExt] <;> (try split) <;> simp [h, Memory.wf_write]

theorem State.applyBatch_wf (h : s.mem.wf = true) (l : List ExtEvent) : (s.applyBatch l).mem.wf = true := by
  induction l generalizing s with
  | nil => exact h
  | cons e rest ih => exact ih _ (State.applyExt_wf s h e)

theorem State.admit_wf (h : s.mem.wf = true) : s.admitOne.mem.wf = true := by
  unfold State.admitOne; split
  · exact h
  · apply State.applyBatch_wf; exact h

@[simp] theorem engineAccesses_nil : engineAccesses [] = [] := rfl

@[simp] theorem engineAccesses_engine (k : Access) (a : Addr) (v : Byte) (log : List BusEvent) :
    engineAccesses (⟨.engine, k, a, v⟩ :: log) = (k, a) :: engineAccesses log := rfl

@[simp] theorem engineAccesses_renderer (k : Access) (a : Addr) (v : Byte) (log : List BusEvent) :
    engineAccesses (⟨.renderer, k, a, v⟩ :: log) = engineAccesses log := rfl

@[simp] theorem engineAccesses_host (k : Access) (a : Addr) (v : Byte) (log : List BusEvent) :
    engineAccesses (⟨.host, k, a, v⟩ :: log) = engineAccesses log := rfl

theorem State.applyExt_engineAccesses (e : ExtEvent) :
    engineAccesses (s.applyExt e).busLog = engineAccesses s.busLog := by
  cases e <;> simp only [State.applyExt] <;> (try split) <;> simp

theorem State.applyBatch_engineAccesses (l : List ExtEvent) :
    engineAccesses (s.applyBatch l).busLog = engineAccesses s.busLog := by
  induction l generalizing s with
  | nil => rfl
  | cons e rest ih => simp [State.applyBatch, ih, State.applyExt_engineAccesses]

@[simp] theorem State.admit_engineAccesses : engineAccesses s.admitOne.busLog = engineAccesses s.busLog := by
  unfold State.admitOne; split
  · rfl
  · exact State.applyBatch_engineAccesses _ _

/-! ### The engine's accesses -/

@[simp] theorem State.afterRead_regs (a : Addr) : (s.afterRead a).regs = s.regs := by simp [State.afterRead]
@[simp] theorem State.afterRead_flags (a : Addr) : (s.afterRead a).flags = s.flags := by simp [State.afterRead]
@[simp] theorem State.afterRead_pc (a : Addr) : (s.afterRead a).pc = s.pc := by simp [State.afterRead]
@[simp] theorem State.afterRead_sp (a : Addr) : (s.afterRead a).sp = s.sp := by simp [State.afterRead]
@[simp] theorem State.afterRead_runState (a : Addr) : (s.afterRead a).runState = s.runState := by simp [State.afterRead]
@[simp] theorem State.afterRead_started (a : Addr) : (s.afterRead a).started = s.started := by simp [State.afterRead]
@[simp] theorem State.afterRead_params (a : Addr) : (s.afterRead a).params = s.params := by simp [State.afterRead]
@[simp] theorem State.afterRead_lastOutcome (a : Addr) : (s.afterRead a).lastOutcome = s.lastOutcome := by simp [State.afterRead]
@[simp] theorem State.afterRead_freeDraws (a : Addr) : (s.afterRead a).freeDraws = s.freeDraws := by simp [State.afterRead]
@[simp] theorem State.afterRead_schedule (a : Addr) : (s.afterRead a).schedule = s.schedule.tail := by simp [State.afterRead]
@[simp] theorem State.afterRead_busBroken (a : Addr) : (s.afterRead a).busBroken = s.admitOne.busBroken := by simp [State.afterRead]
@[simp] theorem State.afterRead_stopRequested (a : Addr) : (s.afterRead a).stopRequested = s.admitOne.stopRequested := by
  simp [State.afterRead]
@[simp] theorem State.afterRead_engineAccesses (a : Addr) :
    engineAccesses (s.afterRead a).busLog = (.read, a) :: engineAccesses s.busLog := by simp [State.afterRead]

@[simp] theorem State.afterWrite_regs (a : Addr) (v : Byte) : (s.afterWrite a v).regs = s.regs := by simp [State.afterWrite]
@[simp] theorem State.afterWrite_flags (a : Addr) (v : Byte) : (s.afterWrite a v).flags = s.flags := by simp [State.afterWrite]
@[simp] theorem State.afterWrite_pc (a : Addr) (v : Byte) : (s.afterWrite a v).pc = s.pc := by simp [State.afterWrite]
@[simp] theorem State.afterWrite_sp (a : Addr) (v : Byte) : (s.afterWrite a v).sp = s.sp := by simp [State.afterWrite]
@[simp] theorem State.afterWrite_runState (a : Addr) (v : Byte) : (s.afterWrite a v).runState = s.runState := by simp [State.afterWrite]
@[simp] theorem State.afterWrite_started (a : Addr) (v : Byte) : (s.afterWrite a v).started = s.started := by simp [State.afterWrite]
@[simp] theorem State.afterWrite_params (a : Addr) (v : Byte) : (s.afterWrite a v).params = s.params := by simp [State.afterWrite]
@[simp] theorem State.afterWrite_lastOutcome (a : Addr) (v : Byte) : (s.afterWrite a v).lastOutcome = s.lastOutcome := by simp [State.afterWrite]
@[simp] theorem State.afterWrite_freeDraws (a : Addr) (v : Byte) : (s.afterWrite a v).freeDraws = s.freeDraws := by simp [State.afterWrite]
@[simp] theorem State.afterWrite_schedule (a : Addr) (v : Byte) : (s.afterWrite a v).schedule = s.schedule.tail := by simp [State.afterWrite]
@[simp] theorem State.afterWrite_busBroken (a : Addr) (v : Byte) : (s.afterWrite a v).busBroken = s.admitOne.busBroken := by simp [State.afterWrite]
@[simp] theorem State.afterWrite_stopRequested (a : Addr) (v : Byte) : (s.afterWrite a v).stopRequested = s.admitOne.stopRequested := by
  simp [State.afterWrite]
@[simp] theorem State.afterWrite_engineAccesses (a : Addr) (v : Byte) :
    engineAccesses (s.afterWrite a v).busLog = (.write, a) :: engineAccesses s.busLog := by simp [State.afterWrite]

@[simp] theorem State.afterRead_mem (a : Addr) : (s.afterRead a).mem = s.admitOne.mem := by simp [State.afterRead]

@[simp] theorem State.afterWrite_mem (a : Addr) (v : Byte) : (s.afterWrite a v).mem = s.admitOne.mem.write a v := by
  simp [State.afterWrite]

theorem busRead_ok (a : Addr) (h : s.admitOne.busBroken = false) : busRead a s = .ok (s.valueAt a) (s.afterRead a) := by
  simp [busRead, h]

theorem busRead_broken (a : Addr) (h : s.admitOne.busBroken = true) : busRead a s = .broken s.admitOne := by
  simp [busRead, h]

theorem busWrite_ok (a : Addr) (v : Byte) (h : s.admitOne.busBroken = false) :
    busWrite a v s = .ok () (s.afterWrite a v) := by
  simp [busWrite, h]

theorem busWrite_broken (a : Addr) (v : Byte) (h : s.admitOne.busBroken = true) : busWrite a v s = .broken s.admitOne := by
  simp [busWrite, h]

@[simp] theorem Bus.andThen_ok {α β : Type} (v : α) (t : State) (k : α → State → Bus β) :
    (Bus.ok v t).andThen k = k v t := rfl

@[simp] theorem Bus.andThen_broken {α β : Type} (t : State) (k : α → State → Bus β) :
    (Bus.broken t).andThen k = .broken t := rfl

/-! ### Two accesses -/

/-- Two accesses find the bus whole: the state between them is any that the first leaves. -/
theorem State.twoUp {s t : State} (h : (s.admits 2).busBroken = false) (hb : t.busBroken = s.admitOne.busBroken)
    (hs : t.schedule = s.schedule.tail) : s.admitOne.busBroken = false ∧ t.admitOne.busBroken = false := by
  have h2 : s.admitOne.admitOne.busBroken = false := h
  refine ⟨State.busBroken_of_admit _ h2, ?_⟩
  rw [← h2]
  exact State.admit_busBroken_congr hb (by simp [hs])

theorem setSp_admit (v : Addr) : (s.setSp v).admitOne.busBroken = s.admitOne.busBroken :=
  State.admit_busBroken_congr rfl rfl

/-! ### SP is out of the other agents' reach: writing it commutes with every access (R29) -/

theorem State.applyExt_setSp (v : Addr) (e : ExtEvent) : (s.setSp v).applyExt e = (s.applyExt e).setSp v := by
  cases e with
  | rendererWrite a w =>
    show (if _ then _ else _) = State.setSp (if _ then _ else _) v
    by_cases h : rendererMayWrite s.params a = true
    · rw [if_pos h, if_pos (show rendererMayWrite (s.setSp v).params a = true from h)]; rfl
    · rw [if_neg h, if_neg (show ¬rendererMayWrite (s.setSp v).params a = true from h)]
  | _ => rfl

theorem State.applyBatch_setSp (v : Addr) (l : List ExtEvent) : (s.setSp v).applyBatch l = (s.applyBatch l).setSp v := by
  induction l generalizing s with
  | nil => rfl
  | cons e rest ih => simp only [State.applyBatch, State.applyExt_setSp, ih]

theorem State.admit_setSp (v : Addr) : (s.setSp v).admitOne = s.admitOne.setSp v := by
  unfold State.admitOne
  rw [State.setSp_schedule]
  cases s.schedule with
  | nil => rfl
  | cons batch rest => exact State.applyBatch_setSp (s := { s with schedule := rest }) v batch

theorem State.afterRead_setSp (v a : Addr) : (s.setSp v).afterRead a = (s.afterRead a).setSp v := by
  unfold State.afterRead; rw [State.admit_setSp]; rfl

theorem State.afterWrite_setSp (v a : Addr) (w : Byte) : (s.setSp v).afterWrite a w = (s.afterWrite a w).setSp v := by
  unfold State.afterWrite; rw [State.admit_setSp]; rfl

theorem State.valueAt_setSp (v a : Addr) : (s.setSp v).valueAt a = s.valueAt a := by
  unfold State.valueAt; rw [State.admit_setSp]; rfl

/-- A push whose two writes find the bus whole (R40, R127). -/
theorem push16_ok (v : Addr) (h : (s.admits 2).busBroken = false) :
    push16 v s = .ok () (((s.afterWrite (s.sp - 1) (highByte v)).afterWrite (s.sp - 2) (lowByte v)).setSp (s.sp - 2)) := by
  have h1 := State.twoUp (t := ((s.setSp (s.sp - 1)).afterWrite (s.sp - 1) (highByte v)).setSp (s.sp - 1 - 1)) h
    (by simp [setSp_admit]) (by simp)
  have e : s.sp - 1 - 1 = s.sp - 2 := by rw [BitVec.sub_sub]; rfl
  unfold push16
  rw [busWrite_ok _ _ _ (by rw [setSp_admit]; exact h1.1)]
  simp only [Bus.andThen_ok, State.afterWrite_sp, State.setSp_sp]
  rw [busWrite_ok _ _ _ h1.2, e, State.afterWrite_setSp, State.afterWrite_setSp, State.afterWrite_setSp]
  rfl

/-- A pop whose two reads find the bus whole (R40, R128). -/
theorem pop16_ok (h : (s.admits 2).busBroken = false) :
    pop16 s = .ok (joinBytes ((s.afterRead s.sp).valueAt (s.sp + 1)) (s.valueAt s.sp))
      (((s.afterRead s.sp).afterRead (s.sp + 1)).setSp (s.sp + 2)) := by
  have h1 := State.twoUp (t := (s.afterRead s.sp).setSp (s.sp + 1)) h (by simp) (by simp)
  have e : s.sp + 1 + 1 = s.sp + 2 := by rw [BitVec.add_assoc]; rfl
  unfold pop16
  rw [busRead_ok _ _ h1.1]
  simp only [Bus.andThen_ok, State.afterRead_sp, State.setSp_sp]
  rw [busRead_ok _ _ h1.2]
  simp only [Bus.andThen_ok, State.setSp_sp, State.afterRead_setSp, State.valueAt_setSp, e]
  rfl

/-- A 16-bit store whose two writes find the bus whole (R40). -/
theorem busWrite16_ok (a v : Addr) (h : (s.admits 2).busBroken = false) :
    busWrite16 a v s = .ok () ((s.afterWrite a (lowByte v)).afterWrite (a + 1) (highByte v)) := by
  have h1 := State.twoUp (t := s.afterWrite a (lowByte v)) h (by simp) (by simp)
  unfold busWrite16
  rw [busWrite_ok _ _ _ h1.1]
  simp only [Bus.andThen_ok]
  rw [busWrite_ok _ _ _ h1.2]

/-- A read and a write back whose two accesses find the bus whole (R148). -/
theorem modifyMHL_ok (f : Byte → State → Byte) (k : Byte → State → State) (h : (s.admits 2).busBroken = false) :
    modifyMHL f k s = .ok () (k (s.valueAt s.hl)
      ((s.afterRead s.hl).afterWrite s.hl (f (s.valueAt s.hl) (s.afterRead s.hl)))) := by
  have h1 := State.twoUp (t := s.afterRead s.hl) h (by simp) (by simp)
  unfold modifyMHL
  rw [busRead_ok _ _ h1.1]
  simp only [Bus.andThen_ok]
  rw [busWrite_ok _ _ _ h1.2]
  rfl

/-- A read of (HL) that finds the bus whole (R80). -/
theorem withMHL_ok (k : Byte → State → State) (h : s.admitOne.busBroken = false) :
    withMHL k s = .ok () (k (s.valueAt s.hl) (s.afterRead s.hl)) := by
  unfold withMHL
  rw [busRead_ok _ _ h]
  rfl

/-! ### Accesses that find the bus broken (R53, R171) -/

/-- A use of the bus, begun in `s`, that ends where an access finds the bus broken, the accesses `made` before it. -/
def Bus.BrokenAfter {α : Type} (m : Bus α) (s : State) (made : List (Access × Addr)) : Prop :=
  ∃ t, m = .broken t ∧ engineAccesses t.busLog = made.reverse ++ engineAccesses s.busLog

/-- What follows the access that found the bus broken does not happen. -/
theorem Bus.BrokenAfter.andThen {α β : Type} {m : Bus α} {made : List (Access × Addr)} (h : m.BrokenAfter s made)
    (k : α → State → Bus β) : (m.andThen k).BrokenAfter s made := by
  obtain ⟨t, rfl, ht⟩ := h
  exact ⟨t, rfl, ht⟩

theorem State.BreaksAt.first (h : s.BreaksAt 0) : s.admitOne.busBroken = true := h.2

theorem State.BreaksAt.whole (h : s.BreaksAt 1) : s.admitOne.busBroken = false := h.1.resolve_left Nat.one_ne_zero

/-- The second access finds the bus broken, whatever state the first leaves. -/
theorem State.BreaksAt.second {s t : State} (h : s.BreaksAt 1) (hb : t.busBroken = s.admitOne.busBroken)
    (hs : t.schedule = s.schedule.tail) : t.admitOne.busBroken = true := by
  rw [← h.2]
  exact State.admit_busBroken_congr hb (by simp [hs])

theorem busRead_brokenAfter (a : Addr) (h : s.BreaksAt 0) : (busRead a s).BrokenAfter s [] :=
  ⟨_, busRead_broken _ _ h.first, by simp⟩

theorem busWrite_brokenAfter (a : Addr) (v : Byte) (h : s.BreaksAt 0) : (busWrite a v s).BrokenAfter s [] :=
  ⟨_, busWrite_broken _ _ _ h.first, by simp⟩

theorem withMHL_brokenAfter (k : Byte → State → State) (h : s.BreaksAt 0) : (withMHL k s).BrokenAfter s [] :=
  (busRead_brokenAfter s _ h).andThen ..

/-- Both places at which a two-access form can find the bus broken. -/
theorem State.BreaksAt.cases_two {k : Nat} (hk : k < 2) (h : s.BreaksAt k) :
    k = 0 ∧ s.BreaksAt 0 ∨ k = 1 ∧ s.BreaksAt 1 := by
  match k, hk with
  | 0, _ => exact .inl ⟨rfl, h⟩
  | 1, _ => exact .inr ⟨rfl, h⟩

theorem modifyMHL_brokenAfter (f : Byte → State → Byte) (g : Byte → State → State) {k : Nat} (hk : k < 2)
    (h : s.BreaksAt k) : (modifyMHL f g s).BrokenAfter s ([(.read, s.hl), (.write, s.hl)].take k) := by
  rcases State.BreaksAt.cases_two s hk h with ⟨rfl, h0⟩ | ⟨rfl, h1⟩
  · exact (busRead_brokenAfter s _ h0).andThen ..
  · unfold modifyMHL
    rw [busRead_ok _ _ h1.whole, Bus.andThen_ok, busWrite_broken _ _ _ (h1.second (by simp) (by simp))]
    exact ⟨_, rfl, by simp⟩

theorem push16_brokenAfter (v : Addr) {k : Nat} (hk : k < 2) (h : s.BreaksAt k) :
    (push16 v s).BrokenAfter s (s.pushAccesses.take k) := by
  unfold push16
  rcases State.BreaksAt.cases_two s hk h with ⟨rfl, h0⟩ | ⟨rfl, h1⟩
  · rw [busWrite_broken _ _ _ (by rw [setSp_admit]; exact h0.first)]
    exact ⟨_, rfl, by simp⟩
  · rw [busWrite_ok _ _ _ (by rw [setSp_admit]; exact h1.whole), Bus.andThen_ok,
      busWrite_broken _ _ _ (h1.second (by simp [setSp_admit]) (by simp))]
    exact ⟨_, rfl, by simp [State.pushAccesses]⟩

theorem pop16_brokenAfter {k : Nat} (hk : k < 2) (h : s.BreaksAt k) :
    (pop16 s).BrokenAfter s (s.popAccesses.take k) := by
  unfold pop16
  rcases State.BreaksAt.cases_two s hk h with ⟨rfl, h0⟩ | ⟨rfl, h1⟩
  · exact (busRead_brokenAfter s _ h0).andThen ..
  · rw [busRead_ok _ _ h1.whole, Bus.andThen_ok]
    dsimp only
    rw [busRead_broken _ _ (h1.second (by simp) (by simp))]
    exact ⟨_, rfl, by simp [State.popAccesses]⟩

theorem busWrite16_brokenAfter (a v : Addr) {k : Nat} (hk : k < 2) (h : s.BreaksAt k) :
    (busWrite16 a v s).BrokenAfter s ([(.write, a), (.write, a + 1)].take k) := by
  unfold busWrite16
  rcases State.BreaksAt.cases_two s hk h with ⟨rfl, h0⟩ | ⟨rfl, h1⟩
  · exact (busWrite_brokenAfter s _ _ h0).andThen ..
  · rw [busWrite_ok _ _ _ h1.whole, Bus.andThen_ok, busWrite_broken _ _ _ (h1.second (by simp) (by simp))]
    exact ⟨_, rfl, by simp⟩

/-! ### Ending an instruction (R75, R171) -/

theorem finish_ok (i : Instr) (t : State) : finish i s (.ok () t) = .next (t.returning .ok) := rfl

theorem finish_broken (i : Instr) (t : State) :
    finish i s (.broken t) =
      .next (t.raiseResourceFault (s.pc - BitVec.ofNat 16 i.length) (some i.opcode)) := rfl

/-- An instruction whose use of the bus ends where the bus is broken is a ResourceFault there. -/
theorem faultsWhereBroken_of_finish {i : Instr} {b : Bus Unit} {plan : List (Access × Addr)}
    (e : exec i s = finish i s b) (h : ∀ k, k < plan.length → s.BreaksAt k → b.BrokenAfter s (plan.take k)) :
    FaultsWhereBroken i s plan := by
  intro k hk hb
  obtain ⟨t, rfl, ht⟩ := h k hk hb
  exact ⟨_, e, rfl, rfl, ht⟩

@[simp] theorem State.raiseResourceFault_runState (a : Addr) (op : Option Byte) :
    (s.raiseResourceFault a op).runState = .faulted (.resourceFault a op) := rfl

@[simp] theorem State.raiseResourceFault_lastOutcome (a : Addr) (op : Option Byte) :
    (s.raiseResourceFault a op).lastOutcome = some (.faulted (.resourceFault a op)) := rfl

@[simp] theorem State.raiseResourceFault_mem (a : Addr) (op : Option Byte) :
    (s.raiseResourceFault a op).mem = Memory.ofCells (Config.freeCells s.freeDraws) := rfl

@[simp] theorem State.raiseResourceFault_busBroken (a : Addr) (op : Option Byte) :
    (s.raiseResourceFault a op).busBroken = s.busBroken := rfl

@[simp] theorem State.raiseResourceFault_started (a : Addr) (op : Option Byte) :
    (s.raiseResourceFault a op).started = s.started := rfl

@[simp] theorem State.raiseResourceFault_params (a : Addr) (op : Option Byte) :
    (s.raiseResourceFault a op).params = s.params := rfl

@[simp] theorem State.raiseResourceFault_busLog (a : Addr) (op : Option Byte) :
    (s.raiseResourceFault a op).busLog = s.busLog := rfl

@[simp] theorem State.raiseResourceFault_schedule (a : Addr) (op : Option Byte) :
    (s.raiseResourceFault a op).schedule = s.schedule := rfl

/-! ### What every state a use of the bus ends in satisfies -/

/-- Both the state after a use of the bus and the state a broken bus was found in satisfy `P`. -/
def Bus.Leaves {α : Type} (P : State → Prop) : Bus α → Prop
  | .ok _ t => P t
  | .broken t => P t

theorem Bus.Leaves.andThen {α β : Type} {P : State → Prop} {m : Bus α} {k : α → State → Bus β} (hm : m.Leaves P)
    (hk : ∀ v t, P t → (k v t).Leaves P) : (m.andThen k).Leaves P := by
  cases m with
  | ok v t => exact hk v t hm
  | broken t => exact hm

/-- A property that other agents and engine accesses keep is kept by a read. -/
theorem busRead_leaves {P : State → Prop} (ha : ∀ t, P t → P t.admitOne)
    (hr : ∀ t a, P t → P (t.afterAgentRead .engine a)) (a : Addr) (h : P s) : (busRead a s).Leaves P := by
  unfold busRead
  split
  · exact ha _ h
  · exact hr _ _ (ha _ h)

/-- A property that other agents and engine accesses keep is kept by a write. -/
theorem busWrite_leaves {P : State → Prop} (ha : ∀ t, P t → P t.admitOne)
    (hw : ∀ t a v, P t → P (t.afterAgentWrite .engine a v)) (a : Addr) (v : Byte) (h : P s) :
    (busWrite a v s).Leaves P := by
  unfold busWrite
  split
  · exact ha _ h
  · exact hw _ _ _ (ha _ h)

end Sys2Proof.Machine
end

