-- ==== Sys2Proof/Laws/Decode.lean ====
section
/-! SUPPORT. The decoder on a list of bytes that has an opcode byte, and the bytes of 16-bit values. -/

namespace Sys2Proof

/-- The decoder, past the opcode byte. -/
theorem decode_cons (sl : StopLen) (o : Byte) (rest : List Byte) :
    decode sl (o :: rest) =
      if rest.length < extraBytes sl o then .error (.truncated o (extraBytes sl o))
      else .ok ((describe sl o (rest.getD 0 0) (rest.getD 1 0)).instr, rest.drop (extraBytes sl o)) := rfl

/-- No opcode takes more than two bytes after it (R54). -/
theorem extraBytes_le_two (sl : StopLen) (o : Byte) : extraBytes sl o ≤ 2 := by
  revert o
  cases sl <;> decide

/-- A property of every opcode byte, from its numerals. -/
theorem byte_induction {P : Byte → Prop} (h : ∀ n, n < 256 → P (BitVec.ofNat 8 n)) (b : Byte) : P b := by
  simpa using h b.toNat b.isLt

/-- The 16-bit value of two bytes, as a number (R9, R39). -/
theorem joinBytes_toNat (hi lo : Byte) : (joinBytes hi lo).toNat = 256 * hi.toNat + lo.toNat := by
  unfold joinBytes
  rw [BitVec.toNat_append, ← Nat.shiftLeft_add_eq_or_of_lt lo.isLt, Nat.shiftLeft_eq]
  omega

/-- A displacement added to a 16-bit value, in exact arithmetic (R9, R59). -/
theorem add_signExtend8 (a : Addr) (e : Byte) : a + signExtend8 e = BitVec.ofInt 16 (a.toNat + e.toInt) := by
  apply BitVec.eq_of_toInt_eq
  rw [BitVec.toInt_add, BitVec.toInt_ofInt, signExtend8, BitVec.toInt_signExtend_of_le (by decide),
    BitVec.toInt_eq_toNat_bmod a]
  simp

end Sys2Proof
end

