-- ==== Sys2Proof/Laws/Meaning.lean ====
section
/-! SUPPORT. What `exec` does, operation by operation: the rows of the opcode table that share an operation share one equation,
and every instruction is the row of some operation. -/

namespace Sys2Proof.Machine

/-- The shared operation behind the rows of an operation. -/
def runOperation (op : Operation) (s : State) : Result :=
  match op with
  | .nop => done s
  | .ldRegReg dst src => loadRegReg dst src s
  | .ldRegImm dst n => loadRegImm dst n s
  | .ldRegMHL dst => loadRegMHL op.instr dst s
  | .ldMHLReg src => storeMHLReg op.instr src s
  | .ldMHLImm n => storeMHLImm op.instr n s
  | .ldAccInd p => loadAccInd op.instr p s
  | .ldIndAcc p => storeIndAcc op.instr p s
  | .ldAbsAcc a => storeAccAt op.instr a s
  | .ldAccAbs a => loadAccAt op.instr a s
  | .ldhAbsAcc a => storeAccAt op.instr (pageAddr a) s
  | .ldhAccAbs a => loadAccAt op.instr (pageAddr a) s
  | .ldPortAcc => storeAccAt op.instr (pageAddr s.regs.c) s
  | .ldAccPort => loadAccAt op.instr (pageAddr s.regs.c) s
  | .ldWideImm p n => loadWideImm p n s
  | .ldAbsSp a => storeSpAt op.instr a s
  | .ldSpHl => done (s.setSp s.hl)
  | .ldHlSp e => done ((s.setPair .hl (addSpOffset s.sp e).out).setFlags (addSpOffset s.sp e).flags)
  | .addHl p => addToHl p s
  | .incWide p => incWide p s
  | .decWide p => decWide p s
  | .addSp e => done ((s.setSp (addSpOffset s.sp e).out).setFlags (addSpOffset s.sp e).flags)
  | .alu k (.reg r) => aluReg k r s
  | .alu k .mHL => aluMHL op.instr k s
  | .alu k (.imm n) => aluImm k n s
  | .inc (.reg r) => done (modifyReg inc8 r s)
  | .inc .mHL => finish op.instr s (modifyMem inc8 s)
  | .dec (.reg r) => done (modifyReg dec8 r s)
  | .dec .mHL => finish op.instr s (modifyMem dec8 s)
  | .accRot k => done (modifyReg (accRot8 k) .a s)
  | .daa => done (s.accumulate (daa8 s.regs.a s.flags))
  | .cpl => done (s.accumulate (cpl8 s.regs.a s.flags))
  | .scf => done (s.setFlags (scfFlags s.flags))
  | .ccf => done (s.setFlags (ccfFlags s.flags))
  | .push p => pushPair op.instr p s
  | .pop p => popPair op.instr p s
  | .jp a => jumpTo a s
  | .jpIf cc a => jumpIf cc a s
  | .jpHl => jumpTo s.hl s
  | .jr e => jumpTo (s.pc + signExtend8 e) s
  | .jrIf cc e => jumpIf cc (s.pc + signExtend8 e) s
  | .call a => finish op.instr s (callBus a s)
  | .callIf cc a => callIf op.instr cc a s
  | .ret => finish op.instr s (returnBus s)
  | .retIf cc => returnIf op.instr cc s
  | .rst t => finish op.instr s (callBus (BitVec.ofNat 16 (8 * t.val)) s)
  | .rot k (.reg r) => rotReg k r s
  | .rot k .mHL => rotMHL op.instr k s
  | .bit b (.reg r) => testBitReg b r s
  | .bit b .mHL => testBitMHL op.instr b s
  | .res b (.reg r) => clearBitReg b r s
  | .res b .mHL => clearBitMHL op.instr b s
  | .set b (.reg r) => raiseBitReg b r s
  | .set b .mHL => raiseBitMHL op.instr b s
  | .halt => unwired 0x76 s
  | .stop _ => unwired 0x10 s
  | .di => unwired 0xF3 s
  | .ei => unwired 0xFB s
  | .reti => unwired 0xD9 s
  | .illegal _ => sentinel op.instr.opcode s
  | .prefixCb sub => cbInstruction op.instr sub s

/-- Dispatch of the row of an operation is its shared operation. -/
theorem exec_instr (op : Operation) (s : State) : exec op.instr s = runOperation op s := by
  cases op with
  | ldRegReg dst src => cases dst <;> cases src <;> rfl
  | ldRegImm dst n => cases dst <;> rfl
  | ldRegMHL dst => cases dst <;> rfl
  | ldMHLReg src => cases src <;> rfl
  | ldAccInd p => cases p <;> rfl
  | ldIndAcc p => cases p <;> rfl
  | ldWideImm p n => cases p <;> rfl
  | addHl p => cases p <;> rfl
  | incWide p => cases p <;> rfl
  | decWide p => cases p <;> rfl
  | alu k src =>
    cases src with
    | reg r => cases k <;> cases r <;> rfl
    | mHL => cases k <;> rfl
    | imm n => cases k <;> rfl
  | inc o => cases o with
    | reg r => cases r <;> rfl
    | mHL => rfl
  | dec o => cases o with
    | reg r => cases r <;> rfl
    | mHL => rfl
  | accRot k => cases k <;> rfl
  | push p => cases p <;> rfl
  | pop p => cases p <;> rfl
  | jpIf cc a => cases cc <;> rfl
  | jrIf cc e => cases cc <;> rfl
  | callIf cc a => cases cc <;> rfl
  | retIf cc => cases cc <;> rfl
  | rst t => fin_cases t <;> rfl
  | rot k o => cases o with
    | reg r => cases k <;> cases r <;> rfl
    | mHL => cases k <;> rfl
  | bit b o => cases o with
    | reg r => fin_cases b <;> cases r <;> rfl
    | mHL => fin_cases b <;> rfl
  | res b o => cases o with
    | reg r => fin_cases b <;> cases r <;> rfl
    | mHL => fin_cases b <;> rfl
  | set b o => cases o with
    | reg r => fin_cases b <;> cases r <;> rfl
    | mHL => fin_cases b <;> rfl
  | illegal h => cases h <;> rfl
  | _ => rfl

end Sys2Proof.Machine
end

