-- ==== Sys2Proof/Tests/Slice0.lean ====
section
/-! SUPPORT. Tests. Expected results come from the spec: the words of the decode tests from the encodings of
spec/opcode_table.json and spec/30_encoding.md R61, the step tests from the vectors of spec/95_test_vectors.md part 2 and its
worked examples, reset from spec/10_state.md R32. A `witness_` theorem shows a state and operands that meet the hypotheses of
the obligation it names. -/

namespace Sys2Proof.Tests

open Sys2Proof Sys2Proof.Machine

/-! ## Well-formedness -/

/-- The bare prefix byte is no instruction (R65, R167). -/
theorem test_wf_prefix_refused : (Instr.prefix_CB 0x00).wellFormed .two = false := by decide

/-- A STOP of length 2 needs its padding byte (R162). -/
theorem test_wf_stop_without_pad_refused : (Instr.stop none).wellFormed .two = false := by decide

/-- A STOP of length 1 has none (R162). -/
theorem test_wf_stop_with_pad_refused : (Instr.stop (some 0x00)).wellFormed .one = false := by decide

theorem test_wf_accepts :
    (Instr.stop (some 0x00)).wellFormed .two = true ∧ (Instr.stop none).wellFormed .one = true ∧
    (Instr.ld_B_n8 0xFF).wellFormed .two = true := by decide

/-! ## Decoding: every opcode byte and every CB sub-opcode, sixteen to a theorem

Operand bytes are 34 and then 12 (in hexadecimal), so a 16-bit operand is 0x1234 (R38). -/

/-- What the decoder reads from a list of bytes, with STOP_LEN = 2. -/
def reads (bytes : List Byte) : Option Instr :=
  match decode .two bytes with
  | .ok (i, []) => some i
  | .ok _ => none
  | .error _ => none

theorem test_decode_0x :
    [[0x00], [0x01, 0x34, 0x12], [0x02], [0x03], [0x04], [0x05], [0x06, 0x34], [0x07], [0x08, 0x34, 0x12], [0x09],
     [0x0A], [0x0B], [0x0C], [0x0D], [0x0E, 0x34], [0x0F]].map reads =
    [.nop, .ld_BC_n16 0x1234, .ld_mBC_A, .inc_BC, .inc_B, .dec_B, .ld_B_n8 0x34, .rlca, .ld_ma16_SP 0x1234,
     .add_HL_BC, .ld_A_mBC, .dec_BC, .inc_C, .dec_C, .ld_C_n8 0x34, .rrca].map some := by rfl

theorem test_decode_1x :
    [[0x10, 0x34], [0x11, 0x34, 0x12], [0x12], [0x13], [0x14], [0x15], [0x16, 0x34], [0x17], [0x18, 0x34], [0x19],
     [0x1A], [0x1B], [0x1C], [0x1D], [0x1E, 0x34], [0x1F]].map reads =
    [.stop (some 0x34), .ld_DE_n16 0x1234, .ld_mDE_A, .inc_DE, .inc_D, .dec_D, .ld_D_n8 0x34, .rla, .jr_e8 0x34,
     .add_HL_DE, .ld_A_mDE, .dec_DE, .inc_E, .dec_E, .ld_E_n8 0x34, .rra].map some := by rfl

theorem test_decode_2x :
    [[0x20, 0x34], [0x21, 0x34, 0x12], [0x22], [0x23], [0x24], [0x25], [0x26, 0x34], [0x27], [0x28, 0x34], [0x29],
     [0x2A], [0x2B], [0x2C], [0x2D], [0x2E, 0x34], [0x2F]].map reads =
    [.jr_NZ_e8 0x34, .ld_HL_n16 0x1234, .ld_mHLI_A, .inc_HL, .inc_H, .dec_H, .ld_H_n8 0x34, .daa, .jr_Z_e8 0x34,
     .add_HL_HL, .ld_A_mHLI, .dec_HL, .inc_L, .dec_L, .ld_L_n8 0x34, .cpl].map some := by rfl

theorem test_decode_3x :
    [[0x30, 0x34], [0x31, 0x34, 0x12], [0x32], [0x33], [0x34], [0x35], [0x36, 0x34], [0x37], [0x38, 0x34], [0x39],
     [0x3A], [0x3B], [0x3C], [0x3D], [0x3E, 0x34], [0x3F]].map reads =
    [.jr_NC_e8 0x34, .ld_SP_n16 0x1234, .ld_mHLD_A, .inc_SP, .inc_mHL, .dec_mHL, .ld_mHL_n8 0x34, .scf,
     .jr_C_e8 0x34, .add_HL_SP, .ld_A_mHLD, .dec_SP, .inc_A, .dec_A, .ld_A_n8 0x34, .ccf].map some := by rfl

theorem test_decode_4x :
    [[0x40], [0x41], [0x42], [0x43], [0x44], [0x45], [0x46], [0x47], [0x48], [0x49], [0x4A], [0x4B], [0x4C],
     [0x4D], [0x4E], [0x4F]].map reads =
    [.ld_B_B, .ld_B_C, .ld_B_D, .ld_B_E, .ld_B_H, .ld_B_L, .ld_B_mHL, .ld_B_A, .ld_C_B, .ld_C_C, .ld_C_D, .ld_C_E,
     .ld_C_H, .ld_C_L, .ld_C_mHL, .ld_C_A].map some := by rfl

theorem test_decode_5x :
    [[0x50], [0x51], [0x52], [0x53], [0x54], [0x55], [0x56], [0x57], [0x58], [0x59], [0x5A], [0x5B], [0x5C],
     [0x5D], [0x5E], [0x5F]].map reads =
    [.ld_D_B, .ld_D_C, .ld_D_D, .ld_D_E, .ld_D_H, .ld_D_L, .ld_D_mHL, .ld_D_A, .ld_E_B, .ld_E_C, .ld_E_D, .ld_E_E,
     .ld_E_H, .ld_E_L, .ld_E_mHL, .ld_E_A].map some := by rfl

theorem test_decode_6x :
    [[0x60], [0x61], [0x62], [0x63], [0x64], [0x65], [0x66], [0x67], [0x68], [0x69], [0x6A], [0x6B], [0x6C],
     [0x6D], [0x6E], [0x6F]].map reads =
    [.ld_H_B, .ld_H_C, .ld_H_D, .ld_H_E, .ld_H_H, .ld_H_L, .ld_H_mHL, .ld_H_A, .ld_L_B, .ld_L_C, .ld_L_D, .ld_L_E,
     .ld_L_H, .ld_L_L, .ld_L_mHL, .ld_L_A].map some := by rfl

theorem test_decode_7x :
    [[0x70], [0x71], [0x72], [0x73], [0x74], [0x75], [0x76], [0x77], [0x78], [0x79], [0x7A], [0x7B], [0x7C],
     [0x7D], [0x7E], [0x7F]].map reads =
    [.ld_mHL_B, .ld_mHL_C, .ld_mHL_D, .ld_mHL_E, .ld_mHL_H, .ld_mHL_L, .halt, .ld_mHL_A, .ld_A_B, .ld_A_C,
     .ld_A_D, .ld_A_E, .ld_A_H, .ld_A_L, .ld_A_mHL, .ld_A_A].map some := by rfl

theorem test_decode_8x :
    [[0x80], [0x81], [0x82], [0x83], [0x84], [0x85], [0x86], [0x87], [0x88], [0x89], [0x8A], [0x8B], [0x8C],
     [0x8D], [0x8E], [0x8F]].map reads =
    [.add_A_B, .add_A_C, .add_A_D, .add_A_E, .add_A_H, .add_A_L, .add_A_mHL, .add_A_A, .adc_A_B, .adc_A_C,
     .adc_A_D, .adc_A_E, .adc_A_H, .adc_A_L, .adc_A_mHL, .adc_A_A].map some := by rfl

theorem test_decode_9x :
    [[0x90], [0x91], [0x92], [0x93], [0x94], [0x95], [0x96], [0x97], [0x98], [0x99], [0x9A], [0x9B], [0x9C],
     [0x9D], [0x9E], [0x9F]].map reads =
    [.sub_A_B, .sub_A_C, .sub_A_D, .sub_A_E, .sub_A_H, .sub_A_L, .sub_A_mHL, .sub_A_A, .sbc_A_B, .sbc_A_C,
     .sbc_A_D, .sbc_A_E, .sbc_A_H, .sbc_A_L, .sbc_A_mHL, .sbc_A_A].map some := by rfl

theorem test_decode_Ax :
    [[0xA0], [0xA1], [0xA2], [0xA3], [0xA4], [0xA5], [0xA6], [0xA7], [0xA8], [0xA9], [0xAA], [0xAB], [0xAC],
     [0xAD], [0xAE], [0xAF]].map reads =
    [.and_A_B, .and_A_C, .and_A_D, .and_A_E, .and_A_H, .and_A_L, .and_A_mHL, .and_A_A, .xor_A_B, .xor_A_C,
     .xor_A_D, .xor_A_E, .xor_A_H, .xor_A_L, .xor_A_mHL, .xor_A_A].map some := by rfl

theorem test_decode_Bx :
    [[0xB0], [0xB1], [0xB2], [0xB3], [0xB4], [0xB5], [0xB6], [0xB7], [0xB8], [0xB9], [0xBA], [0xBB], [0xBC],
     [0xBD], [0xBE], [0xBF]].map reads =
    [.or_A_B, .or_A_C, .or_A_D, .or_A_E, .or_A_H, .or_A_L, .or_A_mHL, .or_A_A, .cp_A_B, .cp_A_C, .cp_A_D, .cp_A_E,
     .cp_A_H, .cp_A_L, .cp_A_mHL, .cp_A_A].map some := by rfl

theorem test_decode_Cx :
    [[0xC0], [0xC1], [0xC2, 0x34, 0x12], [0xC3, 0x34, 0x12], [0xC4, 0x34, 0x12], [0xC5], [0xC6, 0x34], [0xC7],
     [0xC8], [0xC9], [0xCA, 0x34, 0x12], [0xCC, 0x34, 0x12], [0xCD, 0x34, 0x12], [0xCE, 0x34], [0xCF]].map reads =
    [.ret_NZ, .pop_BC, .jp_NZ_a16 0x1234, .jp_a16 0x1234, .call_NZ_a16 0x1234, .push_BC, .add_A_n8 0x34, .rst_00,
     .ret_Z, .ret, .jp_Z_a16 0x1234, .call_Z_a16 0x1234, .call_a16 0x1234, .adc_A_n8 0x34, .rst_08].map some := by rfl

theorem test_decode_Dx :
    [[0xD0], [0xD1], [0xD2, 0x34, 0x12], [0xD3], [0xD4, 0x34, 0x12], [0xD5], [0xD6, 0x34], [0xD7], [0xD8], [0xD9],
     [0xDA, 0x34, 0x12], [0xDB], [0xDC, 0x34, 0x12], [0xDD], [0xDE, 0x34], [0xDF]].map reads =
    [.ret_NC, .pop_DE, .jp_NC_a16 0x1234, .illegal_D3, .call_NC_a16 0x1234, .push_DE, .sub_A_n8 0x34, .rst_10,
     .ret_C, .reti, .jp_C_a16 0x1234, .illegal_DB, .call_C_a16 0x1234, .illegal_DD, .sbc_A_n8 0x34, .rst_18].map some := by rfl

theorem test_decode_Ex :
    [[0xE0, 0x34], [0xE1], [0xE2], [0xE3], [0xE4], [0xE5], [0xE6, 0x34], [0xE7], [0xE8, 0x34], [0xE9],
     [0xEA, 0x34, 0x12], [0xEB], [0xEC], [0xED], [0xEE, 0x34], [0xEF]].map reads =
    [.ldh_ma8_A 0x34, .pop_HL, .ld_mC_A, .illegal_E3, .illegal_E4, .push_HL, .and_A_n8 0x34, .rst_20,
     .add_SP_e8 0x34, .jp_HL, .ld_ma16_A 0x1234, .illegal_EB, .illegal_EC, .illegal_ED, .xor_A_n8 0x34, .rst_28].map some := by rfl

theorem test_decode_Fx :
    [[0xF0, 0x34], [0xF1], [0xF2], [0xF3], [0xF4], [0xF5], [0xF6, 0x34], [0xF7], [0xF8, 0x34], [0xF9],
     [0xFA, 0x34, 0x12], [0xFB], [0xFC], [0xFD], [0xFE, 0x34], [0xFF]].map reads =
    [.ldh_A_ma8 0x34, .pop_AF, .ld_A_mC, .di, .illegal_F4, .push_AF, .or_A_n8 0x34, .rst_30, .ld_HL_SPe8 0x34,
     .ld_SP_HL, .ld_A_ma16 0x1234, .ei, .illegal_FC, .illegal_FD, .cp_A_n8 0x34, .rst_38].map some := by rfl

theorem test_decode_CB_0x :
    [[0xCB, 0x00], [0xCB, 0x01], [0xCB, 0x02], [0xCB, 0x03], [0xCB, 0x04], [0xCB, 0x05], [0xCB, 0x06],
     [0xCB, 0x07], [0xCB, 0x08], [0xCB, 0x09], [0xCB, 0x0A], [0xCB, 0x0B], [0xCB, 0x0C], [0xCB, 0x0D],
     [0xCB, 0x0E], [0xCB, 0x0F]].map reads =
    [.rlc_B, .rlc_C, .rlc_D, .rlc_E, .rlc_H, .rlc_L, .rlc_mHL, .rlc_A, .rrc_B, .rrc_C, .rrc_D, .rrc_E, .rrc_H,
     .rrc_L, .rrc_mHL, .rrc_A].map some := by rfl

theorem test_decode_CB_1x :
    [[0xCB, 0x10], [0xCB, 0x11], [0xCB, 0x12], [0xCB, 0x13], [0xCB, 0x14], [0xCB, 0x15], [0xCB, 0x16],
     [0xCB, 0x17], [0xCB, 0x18], [0xCB, 0x19], [0xCB, 0x1A], [0xCB, 0x1B], [0xCB, 0x1C], [0xCB, 0x1D],
     [0xCB, 0x1E], [0xCB, 0x1F]].map reads =
    [.rl_B, .rl_C, .rl_D, .rl_E, .rl_H, .rl_L, .rl_mHL, .rl_A, .rr_B, .rr_C, .rr_D, .rr_E, .rr_H, .rr_L, .rr_mHL,
     .rr_A].map some := by rfl

theorem test_decode_CB_2x :
    [[0xCB, 0x20], [0xCB, 0x21], [0xCB, 0x22], [0xCB, 0x23], [0xCB, 0x24], [0xCB, 0x25], [0xCB, 0x26],
     [0xCB, 0x27], [0xCB, 0x28], [0xCB, 0x29], [0xCB, 0x2A], [0xCB, 0x2B], [0xCB, 0x2C], [0xCB, 0x2D],
     [0xCB, 0x2E], [0xCB, 0x2F]].map reads =
    [.sla_B, .sla_C, .sla_D, .sla_E, .sla_H, .sla_L, .sla_mHL, .sla_A, .sra_B, .sra_C, .sra_D, .sra_E, .sra_H,
     .sra_L, .sra_mHL, .sra_A].map some := by rfl

theorem test_decode_CB_3x :
    [[0xCB, 0x30], [0xCB, 0x31], [0xCB, 0x32], [0xCB, 0x33], [0xCB, 0x34], [0xCB, 0x35], [0xCB, 0x36],
     [0xCB, 0x37], [0xCB, 0x38], [0xCB, 0x39], [0xCB, 0x3A], [0xCB, 0x3B], [0xCB, 0x3C], [0xCB, 0x3D],
     [0xCB, 0x3E], [0xCB, 0x3F]].map reads =
    [.swap_B, .swap_C, .swap_D, .swap_E, .swap_H, .swap_L, .swap_mHL, .swap_A, .srl_B, .srl_C, .srl_D, .srl_E,
     .srl_H, .srl_L, .srl_mHL, .srl_A].map some := by rfl

theorem test_decode_CB_4x :
    [[0xCB, 0x40], [0xCB, 0x41], [0xCB, 0x42], [0xCB, 0x43], [0xCB, 0x44], [0xCB, 0x45], [0xCB, 0x46],
     [0xCB, 0x47], [0xCB, 0x48], [0xCB, 0x49], [0xCB, 0x4A], [0xCB, 0x4B], [0xCB, 0x4C], [0xCB, 0x4D],
     [0xCB, 0x4E], [0xCB, 0x4F]].map reads =
    [.bit_0_B, .bit_0_C, .bit_0_D, .bit_0_E, .bit_0_H, .bit_0_L, .bit_0_mHL, .bit_0_A, .bit_1_B, .bit_1_C,
     .bit_1_D, .bit_1_E, .bit_1_H, .bit_1_L, .bit_1_mHL, .bit_1_A].map some := by rfl

theorem test_decode_CB_5x :
    [[0xCB, 0x50], [0xCB, 0x51], [0xCB, 0x52], [0xCB, 0x53], [0xCB, 0x54], [0xCB, 0x55], [0xCB, 0x56],
     [0xCB, 0x57], [0xCB, 0x58], [0xCB, 0x59], [0xCB, 0x5A], [0xCB, 0x5B], [0xCB, 0x5C], [0xCB, 0x5D],
     [0xCB, 0x5E], [0xCB, 0x5F]].map reads =
    [.bit_2_B, .bit_2_C, .bit_2_D, .bit_2_E, .bit_2_H, .bit_2_L, .bit_2_mHL, .bit_2_A, .bit_3_B, .bit_3_C,
     .bit_3_D, .bit_3_E, .bit_3_H, .bit_3_L, .bit_3_mHL, .bit_3_A].map some := by rfl

theorem test_decode_CB_6x :
    [[0xCB, 0x60], [0xCB, 0x61], [0xCB, 0x62], [0xCB, 0x63], [0xCB, 0x64], [0xCB, 0x65], [0xCB, 0x66],
     [0xCB, 0x67], [0xCB, 0x68], [0xCB, 0x69], [0xCB, 0x6A], [0xCB, 0x6B], [0xCB, 0x6C], [0xCB, 0x6D],
     [0xCB, 0x6E], [0xCB, 0x6F]].map reads =
    [.bit_4_B, .bit_4_C, .bit_4_D, .bit_4_E, .bit_4_H, .bit_4_L, .bit_4_mHL, .bit_4_A, .bit_5_B, .bit_5_C,
     .bit_5_D, .bit_5_E, .bit_5_H, .bit_5_L, .bit_5_mHL, .bit_5_A].map some := by rfl

theorem test_decode_CB_7x :
    [[0xCB, 0x70], [0xCB, 0x71], [0xCB, 0x72], [0xCB, 0x73], [0xCB, 0x74], [0xCB, 0x75], [0xCB, 0x76],
     [0xCB, 0x77], [0xCB, 0x78], [0xCB, 0x79], [0xCB, 0x7A], [0xCB, 0x7B], [0xCB, 0x7C], [0xCB, 0x7D],
     [0xCB, 0x7E], [0xCB, 0x7F]].map reads =
    [.bit_6_B, .bit_6_C, .bit_6_D, .bit_6_E, .bit_6_H, .bit_6_L, .bit_6_mHL, .bit_6_A, .bit_7_B, .bit_7_C,
     .bit_7_D, .bit_7_E, .bit_7_H, .bit_7_L, .bit_7_mHL, .bit_7_A].map some := by rfl

theorem test_decode_CB_8x :
    [[0xCB, 0x80], [0xCB, 0x81], [0xCB, 0x82], [0xCB, 0x83], [0xCB, 0x84], [0xCB, 0x85], [0xCB, 0x86],
     [0xCB, 0x87], [0xCB, 0x88], [0xCB, 0x89], [0xCB, 0x8A], [0xCB, 0x8B], [0xCB, 0x8C], [0xCB, 0x8D],
     [0xCB, 0x8E], [0xCB, 0x8F]].map reads =
    [.res_0_B, .res_0_C, .res_0_D, .res_0_E, .res_0_H, .res_0_L, .res_0_mHL, .res_0_A, .res_1_B, .res_1_C,
     .res_1_D, .res_1_E, .res_1_H, .res_1_L, .res_1_mHL, .res_1_A].map some := by rfl

theorem test_decode_CB_9x :
    [[0xCB, 0x90], [0xCB, 0x91], [0xCB, 0x92], [0xCB, 0x93], [0xCB, 0x94], [0xCB, 0x95], [0xCB, 0x96],
     [0xCB, 0x97], [0xCB, 0x98], [0xCB, 0x99], [0xCB, 0x9A], [0xCB, 0x9B], [0xCB, 0x9C], [0xCB, 0x9D],
     [0xCB, 0x9E], [0xCB, 0x9F]].map reads =
    [.res_2_B, .res_2_C, .res_2_D, .res_2_E, .res_2_H, .res_2_L, .res_2_mHL, .res_2_A, .res_3_B, .res_3_C,
     .res_3_D, .res_3_E, .res_3_H, .res_3_L, .res_3_mHL, .res_3_A].map some := by rfl

theorem test_decode_CB_Ax :
    [[0xCB, 0xA0], [0xCB, 0xA1], [0xCB, 0xA2], [0xCB, 0xA3], [0xCB, 0xA4], [0xCB, 0xA5], [0xCB, 0xA6],
     [0xCB, 0xA7], [0xCB, 0xA8], [0xCB, 0xA9], [0xCB, 0xAA], [0xCB, 0xAB], [0xCB, 0xAC], [0xCB, 0xAD],
     [0xCB, 0xAE], [0xCB, 0xAF]].map reads =
    [.res_4_B, .res_4_C, .res_4_D, .res_4_E, .res_4_H, .res_4_L, .res_4_mHL, .res_4_A, .res_5_B, .res_5_C,
     .res_5_D, .res_5_E, .res_5_H, .res_5_L, .res_5_mHL, .res_5_A].map some := by rfl

theorem test_decode_CB_Bx :
    [[0xCB, 0xB0], [0xCB, 0xB1], [0xCB, 0xB2], [0xCB, 0xB3], [0xCB, 0xB4], [0xCB, 0xB5], [0xCB, 0xB6],
     [0xCB, 0xB7], [0xCB, 0xB8], [0xCB, 0xB9], [0xCB, 0xBA], [0xCB, 0xBB], [0xCB, 0xBC], [0xCB, 0xBD],
     [0xCB, 0xBE], [0xCB, 0xBF]].map reads =
    [.res_6_B, .res_6_C, .res_6_D, .res_6_E, .res_6_H, .res_6_L, .res_6_mHL, .res_6_A, .res_7_B, .res_7_C,
     .res_7_D, .res_7_E, .res_7_H, .res_7_L, .res_7_mHL, .res_7_A].map some := by rfl

theorem test_decode_CB_Cx :
    [[0xCB, 0xC0], [0xCB, 0xC1], [0xCB, 0xC2], [0xCB, 0xC3], [0xCB, 0xC4], [0xCB, 0xC5], [0xCB, 0xC6],
     [0xCB, 0xC7], [0xCB, 0xC8], [0xCB, 0xC9], [0xCB, 0xCA], [0xCB, 0xCB], [0xCB, 0xCC], [0xCB, 0xCD],
     [0xCB, 0xCE], [0xCB, 0xCF]].map reads =
    [.set_0_B, .set_0_C, .set_0_D, .set_0_E, .set_0_H, .set_0_L, .set_0_mHL, .set_0_A, .set_1_B, .set_1_C,
     .set_1_D, .set_1_E, .set_1_H, .set_1_L, .set_1_mHL, .set_1_A].map some := by rfl

theorem test_decode_CB_Dx :
    [[0xCB, 0xD0], [0xCB, 0xD1], [0xCB, 0xD2], [0xCB, 0xD3], [0xCB, 0xD4], [0xCB, 0xD5], [0xCB, 0xD6],
     [0xCB, 0xD7], [0xCB, 0xD8], [0xCB, 0xD9], [0xCB, 0xDA], [0xCB, 0xDB], [0xCB, 0xDC], [0xCB, 0xDD],
     [0xCB, 0xDE], [0xCB, 0xDF]].map reads =
    [.set_2_B, .set_2_C, .set_2_D, .set_2_E, .set_2_H, .set_2_L, .set_2_mHL, .set_2_A, .set_3_B, .set_3_C,
     .set_3_D, .set_3_E, .set_3_H, .set_3_L, .set_3_mHL, .set_3_A].map some := by rfl

theorem test_decode_CB_Ex :
    [[0xCB, 0xE0], [0xCB, 0xE1], [0xCB, 0xE2], [0xCB, 0xE3], [0xCB, 0xE4], [0xCB, 0xE5], [0xCB, 0xE6],
     [0xCB, 0xE7], [0xCB, 0xE8], [0xCB, 0xE9], [0xCB, 0xEA], [0xCB, 0xEB], [0xCB, 0xEC], [0xCB, 0xED],
     [0xCB, 0xEE], [0xCB, 0xEF]].map reads =
    [.set_4_B, .set_4_C, .set_4_D, .set_4_E, .set_4_H, .set_4_L, .set_4_mHL, .set_4_A, .set_5_B, .set_5_C,
     .set_5_D, .set_5_E, .set_5_H, .set_5_L, .set_5_mHL, .set_5_A].map some := by rfl

theorem test_decode_CB_Fx :
    [[0xCB, 0xF0], [0xCB, 0xF1], [0xCB, 0xF2], [0xCB, 0xF3], [0xCB, 0xF4], [0xCB, 0xF5], [0xCB, 0xF6],
     [0xCB, 0xF7], [0xCB, 0xF8], [0xCB, 0xF9], [0xCB, 0xFA], [0xCB, 0xFB], [0xCB, 0xFC], [0xCB, 0xFD],
     [0xCB, 0xFE], [0xCB, 0xFF]].map reads =
    [.set_6_B, .set_6_C, .set_6_D, .set_6_E, .set_6_H, .set_6_L, .set_6_mHL, .set_6_A, .set_7_B, .set_7_C,
     .set_7_D, .set_7_E, .set_7_H, .set_7_L, .set_7_mHL, .set_7_A].map some := by rfl

/-- A row of the CB table is the number 0xCB2C for SRA H; a row of the main table has its operand bytes above the opcode byte. -/
theorem test_table_words :
    decodeTableWord 16 0xCB2C = some .sra_H ∧ decodeTableWord 8 0x00 = some .nop ∧
    decodeTableWord 24 0x1234C3 = some (.jp_a16 0x1234) ∧ decodeTableWord 8 0xC3 = some (.jp_a16 0x0000) := by
  refine ⟨rfl, rfl, rfl, rfl⟩

/-- STOP_LEN = 1 (R162). -/
theorem test_decode_stop_of_one_byte : decode .one [0x10, 0x00] = .ok (.stop none, [0x00]) := by rfl

/-! ## Reset (R32, R184) -/

theorem test_reset_registers :
    State.reset.regs = { a := 0x01, b := 0x00, c := 0x13, d := 0x00, e := 0xD8, h := 0x01, l := 0x4D } ∧
    State.reset.f = 0xB0 ∧ State.reset.pc = 0x0000 ∧ State.reset.runState = .running := by decide

theorem test_reset_pairs :
    State.reset.pair .af = 0xB001 ∧ State.reset.pair .bc = 0x1300 ∧ State.reset.pair .de = 0xD800 ∧
    State.reset.pair .hl = 0x4D01 := by decide

theorem test_reset_memory_is_canonical : State.reset.mem.wf = true := by decide

/-! ## One step on a small state -/

/-- What a test looks at after a step: the outcome, the registers, F, SP, PC, and the engine's writes in order. -/
structure Seen where
  outcome : Option StepOutcome
  regs : Regs
  f : Byte
  sp : Addr
  pc : Addr
  writes : List (Addr × Byte)
deriving DecidableEq, Repr

/-- The start state of spec/95_test_vectors.md: construction, SP_INIT = 0xFFFE, PC = 0x0100. -/
def start : State := { State.reset with sp := 0xFFFE, pc := 0x0100 }

/-- The engine's writes in a record, oldest first. -/
def engineWrites (log : List BusEvent) : List (Addr × Byte) :=
  (log.reverse.filter fun e => e.agent == .engine && e.access == .write).map fun e => (e.addr, e.value)

/-- One step with the bytes at PC. -/
def sees (s : State) (bytes : List Byte) : Option Seen :=
  match step { s with mem := s.mem.load s.pc bytes } with
  | .next t => some ⟨t.lastOutcome, t.regs, t.f, t.sp, t.pc, engineWrites t.busLog⟩
  | .fault _ => none
  | .refused _ => none

/-- R83: `ADD A,A`. -/
theorem test_R83_ADD_A_A :
    sees
      { start with regs := { Regs.reset with a := 0x0F }, flags := Flags.ofByte 0x00 }
      [0x87] =
    some ⟨some .ok, { Regs.reset with a := 0x1E }, 0x20, 0xFFFE, 0x0101, []⟩ := by rfl

/-- R83: `ADD A,n8`. -/
theorem test_R83_ADD_A_n8_b :
    sees
      { start with regs := { Regs.reset with a := 0xFF }, flags := Flags.ofByte 0x00 }
      [0xC6, 0x01] =
    some ⟨some .ok, { Regs.reset with a := 0x00 }, 0xB0, 0xFFFE, 0x0102, []⟩ := by rfl

/-- R84: `ADC A,B`. -/
theorem test_R84_ADC_A_B :
    sees
      { start with regs := { Regs.reset with a := 0xE1, b := 0x0F }, flags := Flags.ofByte 0x10 }
      [0x88] =
    some ⟨some .ok, { Regs.reset with a := 0xF1, b := 0x0F }, 0x20, 0xFFFE, 0x0101, []⟩ := by rfl

/-- R84: `ADC A,n8`. -/
theorem test_R84_ADC_A_n8_b :
    sees
      { start with regs := { Regs.reset with a := 0x00 }, flags := Flags.ofByte 0x10 }
      [0xCE, 0xFF] =
    some ⟨some .ok, { Regs.reset with a := 0x00 }, 0xB0, 0xFFFE, 0x0102, []⟩ := by rfl

/-- R85: `SUB A,B`. -/
theorem test_R85_SUB_A_B :
    sees
      { start with regs := { Regs.reset with a := 0x05, b := 0x05 }, flags := Flags.ofByte 0x00 }
      [0x90] =
    some ⟨some .ok, { Regs.reset with a := 0x00, b := 0x05 }, 0xC0, 0xFFFE, 0x0101, []⟩ := by rfl

/-- R85: `SUB A,n8`. -/
theorem test_R85_SUB_A_n8_b :
    sees
      { start with regs := { Regs.reset with a := 0x3E }, flags := Flags.ofByte 0x00 }
      [0xD6, 0x0F] =
    some ⟨some .ok, { Regs.reset with a := 0x2F }, 0x60, 0xFFFE, 0x0102, []⟩ := by rfl

/-- R86: `SBC A,n8`. -/
theorem test_R86_SBC_A_n8 :
    sees
      { start with regs := { Regs.reset with a := 0x00 }, flags := Flags.ofByte 0x10 }
      [0xDE, 0x01] =
    some ⟨some .ok, { Regs.reset with a := 0xFE }, 0x70, 0xFFFE, 0x0102, []⟩ := by rfl

/-- R86: `SBC A,B`. -/
theorem test_R86_SBC_A_B_b :
    sees
      { start with regs := { Regs.reset with a := 0x10, b := 0x0F }, flags := Flags.ofByte 0x10 }
      [0x98] =
    some ⟨some .ok, { Regs.reset with a := 0x00, b := 0x0F }, 0xE0, 0xFFFE, 0x0101, []⟩ := by rfl

/-- R87: `AND A,n8`. -/
theorem test_R87_AND_A_n8 :
    sees
      { start with regs := { Regs.reset with a := 0xF0 }, flags := Flags.ofByte 0xF0 }
      [0xE6, 0x0F] =
    some ⟨some .ok, { Regs.reset with a := 0x00 }, 0x80, 0xFFFE, 0x0102, []⟩ := by rfl

/-- R87: `AND A,(HL)`. -/
theorem test_R87_AND_A_HL_b :
    sees
      { start with regs := { Regs.reset with a := 0xFF, h := 0x00, l := 0xC0 }, flags := Flags.ofByte 0x00, mem := Memory.ofCells [(0xC000, 0x5A)] }
      [0xA6] =
    some ⟨some .ok, { Regs.reset with a := 0x5A, h := 0x00, l := 0xC0 }, 0x00, 0xFFFE, 0x0101, []⟩ := by rfl

/-- R88: `XOR A,A`. -/
theorem test_R88_XOR_A_A :
    sees
      { start with regs := { Regs.reset with a := 0x5A }, flags := Flags.ofByte 0xF0 }
      [0xAF] =
    some ⟨some .ok, { Regs.reset with a := 0x00 }, 0x80, 0xFFFE, 0x0101, []⟩ := by rfl

/-- R88: `XOR A,n8`. -/
theorem test_R88_XOR_A_n8_b :
    sees
      { start with regs := { Regs.reset with a := 0x0F }, flags := Flags.ofByte 0x00 }
      [0xEE, 0xFF] =
    some ⟨some .ok, { Regs.reset with a := 0xF0 }, 0x00, 0xFFFE, 0x0102, []⟩ := by rfl

/-- R89: `OR A,B`. -/
theorem test_R89_OR_A_B :
    sees
      { start with regs := { Regs.reset with a := 0x00, b := 0x00 }, flags := Flags.ofByte 0x70 }
      [0xB0] =
    some ⟨some .ok, { Regs.reset with a := 0x00 }, 0x80, 0xFFFE, 0x0101, []⟩ := by rfl

/-- R89: `OR A,n8`. -/
theorem test_R89_OR_A_n8_b :
    sees
      { start with regs := { Regs.reset with a := 0x01 }, flags := Flags.ofByte 0x00 }
      [0xF6, 0x80] =
    some ⟨some .ok, { Regs.reset with a := 0x81 }, 0x00, 0xFFFE, 0x0102, []⟩ := by rfl

/-- R90: `CP A,n8`. -/
theorem test_R90_CP_A_n8 :
    sees
      { start with regs := { Regs.reset with a := 0x10 }, flags := Flags.ofByte 0x00 }
      [0xFE, 0x20] =
    some ⟨some .ok, { Regs.reset with a := 0x10 }, 0x50, 0xFFFE, 0x0102, []⟩ := by rfl

/-- R90: `CP A,A`. -/
theorem test_R90_CP_A_A_b :
    sees
      { start with regs := { Regs.reset with a := 0x42 }, flags := Flags.ofByte 0x00 }
      [0xBF] =
    some ⟨some .ok, { Regs.reset with a := 0x42 }, 0xC0, 0xFFFE, 0x0101, []⟩ := by rfl

/-- R91: `INC B`. -/
theorem test_R91_INC_B :
    sees
      { start with regs := { Regs.reset with b := 0xFF }, flags := Flags.ofByte 0x10 }
      [0x04] =
    some ⟨some .ok, Regs.reset, 0xB0, 0xFFFE, 0x0101, []⟩ := by rfl

/-- R91: `INC A`. -/
theorem test_R91_INC_A_b :
    sees
      { start with regs := { Regs.reset with a := 0x0F }, flags := Flags.ofByte 0x00 }
      [0x3C] =
    some ⟨some .ok, { Regs.reset with a := 0x10 }, 0x20, 0xFFFE, 0x0101, []⟩ := by rfl

/-- R92: `INC (HL)`. -/
theorem test_R92_INC_HL :
    sees
      { start with regs := { Regs.reset with h := 0x00, l := 0xC0 }, flags := Flags.ofByte 0x00, mem := Memory.ofCells [(0xC000, 0x5A)] }
      [0x34] =
    some ⟨some .ok, { Regs.reset with h := 0x00, l := 0xC0 }, 0x00, 0xFFFE, 0x0101, [(0xC000, 0x5B)]⟩ := by rfl

/-- R93: `DEC C`. -/
theorem test_R93_DEC_C :
    sees
      { start with regs := { Regs.reset with c := 0x01 }, flags := Flags.ofByte 0x00 }
      [0x0D] =
    some ⟨some .ok, { Regs.reset with c := 0x00 }, 0xC0, 0xFFFE, 0x0101, []⟩ := by rfl

/-- R93: `DEC D`. -/
theorem test_R93_DEC_D_b :
    sees
      { start with regs := { Regs.reset with d := 0x00 }, flags := Flags.ofByte 0x10 }
      [0x15] =
    some ⟨some .ok, { Regs.reset with d := 0xFF }, 0x70, 0xFFFE, 0x0101, []⟩ := by rfl

/-- R94: `DEC (HL)`. -/
theorem test_R94_DEC_HL :
    sees
      { start with regs := { Regs.reset with h := 0x00, l := 0xC0 }, flags := Flags.ofByte 0x00, mem := Memory.ofCells [(0xC000, 0x10)] }
      [0x35] =
    some ⟨some .ok, { Regs.reset with h := 0x00, l := 0xC0 }, 0x60, 0xFFFE, 0x0101, [(0xC000, 0x0F)]⟩ := by rfl

/-- R95: `DAA`. -/
theorem test_R95_DAA :
    sees
      { start with regs := { Regs.reset with a := 0x7D }, flags := Flags.ofByte 0x00 }
      [0x27] =
    some ⟨some .ok, { Regs.reset with a := 0x83 }, 0x00, 0xFFFE, 0x0101, []⟩ := by rfl

/-- R95: `DAA`. -/
theorem test_R95_DAA_b :
    sees
      { start with regs := { Regs.reset with a := 0x9A }, flags := Flags.ofByte 0x00 }
      [0x27] =
    some ⟨some .ok, { Regs.reset with a := 0x00 }, 0x90, 0xFFFE, 0x0101, []⟩ := by rfl

/-- R96: `CPL`. -/
theorem test_R96_CPL :
    sees
      { start with regs := { Regs.reset with a := 0x35 }, flags := Flags.ofByte 0x80 }
      [0x2F] =
    some ⟨some .ok, { Regs.reset with a := 0xCA }, 0xE0, 0xFFFE, 0x0101, []⟩ := by rfl

/-- R97: `SCF`. -/
theorem test_R97_SCF :
    sees
      { start with flags := Flags.ofByte 0xE0 }
      [0x37] =
    some ⟨some .ok, Regs.reset, 0x90, 0xFFFE, 0x0101, []⟩ := by rfl

/-- R98: `CCF`. -/
theorem test_R98_CCF :
    sees
      { start with flags := Flags.ofByte 0x90 }
      [0x3F] =
    some ⟨some .ok, Regs.reset, 0x80, 0xFFFE, 0x0101, []⟩ := by rfl

/-- R98: `CCF`. -/
theorem test_R98_CCF_b :
    sees
      { start with flags := Flags.ofByte 0x00 }
      [0x3F] =
    some ⟨some .ok, Regs.reset, 0x10, 0xFFFE, 0x0101, []⟩ := by rfl

/-- R100: `ADD HL,BC`. -/
theorem test_R100_ADD_HL_BC :
    sees
      { start with regs := { Regs.reset with b := 0x01, c := 0x00, h := 0xFF, l := 0x0F }, flags := Flags.ofByte 0x80 }
      [0x09] =
    some ⟨some .ok, { Regs.reset with b := 0x01, c := 0x00, h := 0x00, l := 0x10 }, 0xA0, 0xFFFE, 0x0101, []⟩ := by rfl

/-- R100: `ADD HL,HL`. -/
theorem test_R100_ADD_HL_HL_b :
    sees
      { start with regs := { Regs.reset with h := 0x00, l := 0x80 }, flags := Flags.ofByte 0x00 }
      [0x29] =
    some ⟨some .ok, { Regs.reset with h := 0x00, l := 0x00 }, 0x10, 0xFFFE, 0x0101, []⟩ := by rfl

/-- R101: `INC BC`. -/
theorem test_R101_INC_BC :
    sees
      { start with regs := { Regs.reset with b := 0xFF, c := 0xFF }, flags := Flags.ofByte 0xB0 }
      [0x03] =
    some ⟨some .ok, { Regs.reset with c := 0x00 }, 0xB0, 0xFFFE, 0x0101, []⟩ := by rfl

/-- R101: `INC SP`. -/
theorem test_R101_INC_SP_b :
    sees
      start
      [0x33] =
    some ⟨some .ok, Regs.reset, 0xB0, 0xFFFF, 0x0101, []⟩ := by rfl

/-- R102: `DEC DE`. -/
theorem test_R102_DEC_DE :
    sees
      { start with regs := { Regs.reset with d := 0x00, e := 0x00 }, flags := Flags.ofByte 0x00 }
      [0x1B] =
    some ⟨some .ok, { Regs.reset with d := 0xFF, e := 0xFF }, 0x00, 0xFFFE, 0x0101, []⟩ := by rfl

/-- R102: `DEC SP`. -/
theorem test_R102_DEC_SP_b :
    sees
      { start with sp := 0x0000 }
      [0x3B] =
    some ⟨some .ok, Regs.reset, 0xB0, 0xFFFF, 0x0101, []⟩ := by rfl

/-- R103: `ADD SP,e8`. -/
theorem test_R103_ADD_SP_e8 :
    sees
      { start with flags := Flags.ofByte 0xC0, sp := 0x00FF }
      [0xE8, 0x01] =
    some ⟨some .ok, Regs.reset, 0x30, 0x0100, 0x0102, []⟩ := by rfl

/-- R103: `ADD SP,e8`. -/
theorem test_R103_ADD_SP_e8_b :
    sees
      { start with flags := Flags.ofByte 0xC0, sp := 0x0000 }
      [0xE8, 0xFF] =
    some ⟨some .ok, Regs.reset, 0x00, 0xFFFF, 0x0102, []⟩ := by rfl

/-- R104: `LD HL,SP+e8`. -/
theorem test_R104_LD_HL_SP_e8 :
    sees
      { start with flags := Flags.ofByte 0x80, sp := 0xFFF8 }
      [0xF8, 0x02] =
    some ⟨some .ok, { Regs.reset with h := 0xFA, l := 0xFF }, 0x00, 0xFFF8, 0x0102, []⟩ := by rfl

/-- R104: `LD HL,SP+e8`. -/
theorem test_R104_LD_HL_SP_e8_b :
    sees
      { start with flags := Flags.ofByte 0x00, sp := 0x0001 }
      [0xF8, 0xFF] =
    some ⟨some .ok, { Regs.reset with h := 0x00, l := 0x00 }, 0x30, 0x0001, 0x0102, []⟩ := by rfl

/-- R105: `LD B,C`. -/
theorem test_R105_LD_B_C :
    sees
      { start with regs := { Regs.reset with c := 0x99 } }
      [0x41] =
    some ⟨some .ok, { Regs.reset with b := 0x99, c := 0x99 }, 0xB0, 0xFFFE, 0x0101, []⟩ := by rfl

/-- R106: `LD E,n8`. -/
theorem test_R106_LD_E_n8 :
    sees
      start
      [0x1E, 0xAB] =
    some ⟨some .ok, { Regs.reset with e := 0xAB }, 0xB0, 0xFFFE, 0x0102, []⟩ := by rfl

/-- R107: `LD A,(HL)`. -/
theorem test_R107_LD_A_HL :
    sees
      { start with regs := { Regs.reset with h := 0x00, l := 0xC0 }, mem := Memory.ofCells [(0xC000, 0x5A)] }
      [0x7E] =
    some ⟨some .ok, { Regs.reset with a := 0x5A, h := 0x00, l := 0xC0 }, 0xB0, 0xFFFE, 0x0101, []⟩ := by rfl

/-- R108: `LD (HL),B`. -/
theorem test_R108_LD_HL_B :
    sees
      { start with regs := { Regs.reset with b := 0x66, h := 0x10, l := 0xC0 } }
      [0x70] =
    some ⟨some .ok, { Regs.reset with b := 0x66, h := 0x10, l := 0xC0 }, 0xB0, 0xFFFE, 0x0101, [(0xC010, 0x66)]⟩ := by rfl

/-- R109: `LD (HL),n8`. -/
theorem test_R109_LD_HL_n8 :
    sees
      { start with regs := { Regs.reset with h := 0x00, l := 0xC0 } }
      [0x36, 0x7E] =
    some ⟨some .ok, { Regs.reset with h := 0x00, l := 0xC0 }, 0xB0, 0xFFFE, 0x0102, [(0xC000, 0x7E)]⟩ := by rfl

/-- R110: `LD A,(BC)`. -/
theorem test_R110_LD_A_BC :
    sees
      { start with regs := { Regs.reset with b := 0x00, c := 0xC0 }, mem := Memory.ofCells [(0xC000, 0x42)] }
      [0x0A] =
    some ⟨some .ok, { Regs.reset with a := 0x42, c := 0xC0 }, 0xB0, 0xFFFE, 0x0101, []⟩ := by rfl

/-- R111: `LD A,(DE)`. -/
theorem test_R111_LD_A_DE :
    sees
      { start with regs := { Regs.reset with d := 0x10, e := 0xC0 }, mem := Memory.ofCells [(0xC010, 0x24)] }
      [0x1A] =
    some ⟨some .ok, { Regs.reset with a := 0x24, d := 0x10, e := 0xC0 }, 0xB0, 0xFFFE, 0x0101, []⟩ := by rfl

/-- R112: `LD (BC),A`. -/
theorem test_R112_LD_BC_A :
    sees
      { start with regs := { Regs.reset with a := 0x11, b := 0x00, c := 0xC0 } }
      [0x02] =
    some ⟨some .ok, { Regs.reset with a := 0x11, c := 0xC0 }, 0xB0, 0xFFFE, 0x0101, [(0xC000, 0x11)]⟩ := by rfl

/-- R113: `LD (DE),A`. -/
theorem test_R113_LD_DE_A :
    sees
      { start with regs := { Regs.reset with a := 0x22, d := 0x01, e := 0xC0 } }
      [0x12] =
    some ⟨some .ok, { Regs.reset with a := 0x22, d := 0x01, e := 0xC0 }, 0xB0, 0xFFFE, 0x0101, [(0xC001, 0x22)]⟩ := by rfl

/-- R114: `LD (HL+),A`. -/
theorem test_R114_LD_HL_A :
    sees
      { start with regs := { Regs.reset with a := 0x33, h := 0xFF, l := 0xC0 } }
      [0x22] =
    some ⟨some .ok, { Regs.reset with a := 0x33, h := 0x00, l := 0xC1 }, 0xB0, 0xFFFE, 0x0101, [(0xC0FF, 0x33)]⟩ := by rfl

/-- R115: `LD (HL-),A`. -/
theorem test_R115_LD_HL_A :
    sees
      { start with regs := { Regs.reset with a := 0x44, h := 0x00, l := 0xC0 } }
      [0x32] =
    some ⟨some .ok, { Regs.reset with a := 0x44, h := 0xFF, l := 0xBF }, 0xB0, 0xFFFE, 0x0101, [(0xC000, 0x44)]⟩ := by rfl

/-- R116: `LD A,(HL+)`. -/
theorem test_R116_LD_A_HL :
    sees
      { start with regs := { Regs.reset with h := 0xFF, l := 0xFF }, mem := Memory.ofCells [(0xFFFF, 0x5E)] }
      [0x2A] =
    some ⟨some .ok, { Regs.reset with a := 0x5E, h := 0x00, l := 0x00 }, 0xB0, 0xFFFE, 0x0101, []⟩ := by rfl

/-- R117: `LD A,(HL-)`. -/
theorem test_R117_LD_A_HL :
    sees
      { start with regs := { Regs.reset with h := 0x00, l := 0x00 }, mem := Memory.ofCells [(0x0000, 0x3F)] }
      [0x3A] =
    some ⟨some .ok, { Regs.reset with a := 0x3F, h := 0xFF, l := 0xFF }, 0xB0, 0xFFFE, 0x0101, []⟩ := by rfl

/-- R118: `LD (a16),A`. -/
theorem test_R118_LD_a16_A :
    sees
      { start with regs := { Regs.reset with a := 0x7F } }
      [0xEA, 0x00, 0xC0] =
    some ⟨some .ok, { Regs.reset with a := 0x7F }, 0xB0, 0xFFFE, 0x0103, [(0xC000, 0x7F)]⟩ := by rfl

/-- R119: `LD A,(a16)`. -/
theorem test_R119_LD_A_a16 :
    sees
      { start with mem := Memory.ofCells [(0xC234, 0x99)] }
      [0xFA, 0x34, 0xC2] =
    some ⟨some .ok, { Regs.reset with a := 0x99 }, 0xB0, 0xFFFE, 0x0103, []⟩ := by rfl

/-- R120: `LDH (a8),A`. -/
theorem test_R120_LDH_a8_A :
    sees
      { start with regs := { Regs.reset with a := 0x55 } }
      [0xE0, 0x80] =
    some ⟨some .ok, { Regs.reset with a := 0x55 }, 0xB0, 0xFFFE, 0x0102, [(0xFF80, 0x55)]⟩ := by rfl

/-- R121: `LDH A,(a8)`. -/
theorem test_R121_LDH_A_a8 :
    sees
      { start with mem := Memory.ofCells [(0xFF44, 0x90)] }
      [0xF0, 0x44] =
    some ⟨some .ok, { Regs.reset with a := 0x90 }, 0xB0, 0xFFFE, 0x0102, []⟩ := by rfl

/-- R122: `LD (C),A`. -/
theorem test_R122_LD_C_A :
    sees
      { start with regs := { Regs.reset with a := 0x66, c := 0x10 } }
      [0xE2] =
    some ⟨some .ok, { Regs.reset with a := 0x66, c := 0x10 }, 0xB0, 0xFFFE, 0x0101, [(0xFF10, 0x66)]⟩ := by rfl

/-- R123: `LD A,(C)`. -/
theorem test_R123_LD_A_C :
    sees
      { start with regs := { Regs.reset with c := 0xFF }, mem := Memory.ofCells [(0xFFFF, 0x1F)] }
      [0xF2] =
    some ⟨some .ok, { Regs.reset with a := 0x1F, c := 0xFF }, 0xB0, 0xFFFE, 0x0101, []⟩ := by rfl

/-- R124: `LD BC,n16`. -/
theorem test_R124_LD_BC_n16 :
    sees
      start
      [0x01, 0x34, 0x12] =
    some ⟨some .ok, { Regs.reset with b := 0x34, c := 0x12 }, 0xB0, 0xFFFE, 0x0103, []⟩ := by rfl

/-- R125: `LD (a16),SP`. -/
theorem test_R125_LD_a16_SP :
    sees
      { start with sp := 0xFFF8 }
      [0x08, 0x00, 0xC1] =
    some ⟨some .ok, Regs.reset, 0xB0, 0xFFF8, 0x0103, [(0xC100, 0xF8), (0xC101, 0xFF)]⟩ := by rfl

/-- R126: `LD SP,HL`. -/
theorem test_R126_LD_SP_HL :
    sees
      { start with regs := { Regs.reset with h := 0x34, l := 0x12 } }
      [0xF9] =
    some ⟨some .ok, { Regs.reset with h := 0x34, l := 0x12 }, 0xB0, 0x1234, 0x0101, []⟩ := by rfl

/-- R129: `PUSH BC`. -/
theorem test_R129_PUSH_BC :
    sees
      { start with regs := { Regs.reset with b := 0x34, c := 0x12 } }
      [0xC5] =
    some ⟨some .ok, { Regs.reset with b := 0x34, c := 0x12 }, 0xB0, 0xFFFC, 0x0101, [(0xFFFD, 0x12), (0xFFFC, 0x34)]⟩ := by rfl

/-- R130: `POP DE`. -/
theorem test_R130_POP_DE :
    sees
      { start with sp := 0xFFFC, mem := Memory.ofCells [(0xFFFC, 0x34), (0xFFFD, 0x12)] }
      [0xD1] =
    some ⟨some .ok, { Regs.reset with d := 0x34, e := 0x12 }, 0xB0, 0xFFFE, 0x0101, []⟩ := by rfl

/-- R131: `POP AF`. -/
theorem test_R131_POP_AF :
    sees
      { start with sp := 0xFFFC, mem := Memory.ofCells [(0xFFFC, 0xFF), (0xFFFD, 0xFF)] }
      [0xF1] =
    some ⟨some .ok, { Regs.reset with a := 0xFF }, 0xF0, 0xFFFE, 0x0101, []⟩ := by rfl

/-- R133: `JP a16`. -/
theorem test_R133_JP_a16 :
    sees
      start
      [0xC3, 0x50, 0x01] =
    some ⟨some .ok, Regs.reset, 0xB0, 0xFFFE, 0x0150, []⟩ := by rfl

/-- R134: `JP NZ,a16`. -/
theorem test_R134_JP_NZ_a16 :
    sees
      { start with flags := Flags.ofByte 0x80, pc := 0x0000 }
      [0xC2, 0x34, 0x12] =
    some ⟨some .ok, Regs.reset, 0x80, 0xFFFE, 0x0003, []⟩ := by rfl

/-- R134: `JP NZ,a16`. -/
theorem test_R134_JP_NZ_a16_b :
    sees
      { start with flags := Flags.ofByte 0x00, pc := 0x0000 }
      [0xC2, 0x34, 0x12] =
    some ⟨some .ok, Regs.reset, 0x00, 0xFFFE, 0x1234, []⟩ := by rfl

/-- R135: `JP HL`. -/
theorem test_R135_JP_HL :
    sees
      { start with regs := { Regs.reset with h := 0x50, l := 0x01 } }
      [0xE9] =
    some ⟨some .ok, { Regs.reset with h := 0x50, l := 0x01 }, 0xB0, 0xFFFE, 0x0150, []⟩ := by rfl

/-- R136: `JR e8`. -/
theorem test_R136_JR_e8 :
    sees
      { start with pc := 0x0200 }
      [0x18, 0x05] =
    some ⟨some .ok, Regs.reset, 0xB0, 0xFFFE, 0x0207, []⟩ := by rfl

/-- R137: `JR NZ,e8`. -/
theorem test_R137_JR_NZ_e8 :
    sees
      { start with flags := Flags.ofByte 0x00, pc := 0x0105 }
      [0x20, 0xFA] =
    some ⟨some .ok, Regs.reset, 0x00, 0xFFFE, 0x0101, []⟩ := by rfl

/-- R137: `JR NZ,e8`. -/
theorem test_R137_JR_NZ_e8_b :
    sees
      { start with flags := Flags.ofByte 0x80, pc := 0x0105 }
      [0x20, 0xFA] =
    some ⟨some .ok, Regs.reset, 0x80, 0xFFFE, 0x0107, []⟩ := by rfl

/-- R138: `CALL a16`. -/
theorem test_R138_CALL_a16 :
    sees
      { start with pc := 0x0150 }
      [0xCD, 0x00, 0x02] =
    some ⟨some .ok, Regs.reset, 0xB0, 0xFFFC, 0x0200, [(0xFFFD, 0x01), (0xFFFC, 0x53)]⟩ := by rfl

/-- R139: `CALL C,a16`. -/
theorem test_R139_CALL_C_a16 :
    sees
      { start with flags := Flags.ofByte 0x10, pc := 0x0150 }
      [0xDC, 0x00, 0x02] =
    some ⟨some .ok, Regs.reset, 0x10, 0xFFFC, 0x0200, [(0xFFFD, 0x01), (0xFFFC, 0x53)]⟩ := by rfl

/-- R139: `CALL C,a16`. -/
theorem test_R139_CALL_C_a16_b :
    sees
      { start with flags := Flags.ofByte 0x00, pc := 0x0150 }
      [0xDC, 0x00, 0x02] =
    some ⟨some .ok, Regs.reset, 0x00, 0xFFFE, 0x0153, []⟩ := by rfl

/-- R140: `RET`. -/
theorem test_R140_RET :
    sees
      { start with sp := 0xFFFC, mem := Memory.ofCells [(0xFFFC, 0x53), (0xFFFD, 0x01)] }
      [0xC9] =
    some ⟨some .ok, Regs.reset, 0xB0, 0xFFFE, 0x0153, []⟩ := by rfl

/-- R141: `RET Z`. -/
theorem test_R141_RET_Z :
    sees
      { start with flags := Flags.ofByte 0x00, sp := 0xFFFC, mem := Memory.ofCells [(0xFFFC, 0x53), (0xFFFD, 0x01)] }
      [0xC8] =
    some ⟨some .ok, Regs.reset, 0x00, 0xFFFC, 0x0101, []⟩ := by rfl

/-- R141: `RET NC`. -/
theorem test_R141_RET_NC_b :
    sees
      { start with flags := Flags.ofByte 0x00, sp := 0xFFFC, mem := Memory.ofCells [(0xFFFC, 0x53), (0xFFFD, 0x01)] }
      [0xD0] =
    some ⟨some .ok, Regs.reset, 0x00, 0xFFFE, 0x0153, []⟩ := by rfl

/-- R142: `RST $08`. -/
theorem test_R142_RST_08 :
    sees
      { start with pc := 0x0200 }
      [0xCF] =
    some ⟨some .ok, Regs.reset, 0xB0, 0xFFFC, 0x0008, [(0xFFFD, 0x02), (0xFFFC, 0x01)]⟩ := by rfl

/-- R144: `RLCA`. -/
theorem test_R144_RLCA :
    sees
      { start with regs := { Regs.reset with a := 0x85 }, flags := Flags.ofByte 0x00 }
      [0x07] =
    some ⟨some .ok, { Regs.reset with a := 0x0B }, 0x10, 0xFFFE, 0x0101, []⟩ := by rfl

/-- R145: `RRCA`. -/
theorem test_R145_RRCA :
    sees
      { start with regs := { Regs.reset with a := 0x01 }, flags := Flags.ofByte 0x00 }
      [0x0F] =
    some ⟨some .ok, { Regs.reset with a := 0x80 }, 0x10, 0xFFFE, 0x0101, []⟩ := by rfl

/-- R146: `RLA`. -/
theorem test_R146_RLA :
    sees
      { start with regs := { Regs.reset with a := 0x80 }, flags := Flags.ofByte 0x00 }
      [0x17] =
    some ⟨some .ok, { Regs.reset with a := 0x00 }, 0x10, 0xFFFE, 0x0101, []⟩ := by rfl

/-- R147: `RRA`. -/
theorem test_R147_RRA :
    sees
      { start with regs := { Regs.reset with a := 0x01 }, flags := Flags.ofByte 0x10 }
      [0x1F] =
    some ⟨some .ok, { Regs.reset with a := 0x80 }, 0x10, 0xFFFE, 0x0101, []⟩ := by rfl

/-- R149: `RLC B`. -/
theorem test_R149_RLC_B :
    sees
      { start with regs := { Regs.reset with b := 0x80 }, flags := Flags.ofByte 0x00 }
      [0xCB, 0x00] =
    some ⟨some .ok, { Regs.reset with b := 0x01 }, 0x10, 0xFFFE, 0x0102, []⟩ := by rfl

/-- R150: `RRC C`. -/
theorem test_R150_RRC_C :
    sees
      { start with regs := { Regs.reset with c := 0x01 }, flags := Flags.ofByte 0x00 }
      [0xCB, 0x09] =
    some ⟨some .ok, { Regs.reset with c := 0x80 }, 0x10, 0xFFFE, 0x0102, []⟩ := by rfl

/-- R151: `RL D`. -/
theorem test_R151_RL_D :
    sees
      { start with regs := { Regs.reset with d := 0x80 }, flags := Flags.ofByte 0x00 }
      [0xCB, 0x12] =
    some ⟨some .ok, Regs.reset, 0x90, 0xFFFE, 0x0102, []⟩ := by rfl

/-- R152: `RR E`. -/
theorem test_R152_RR_E :
    sees
      { start with regs := { Regs.reset with e := 0x01 }, flags := Flags.ofByte 0x00 }
      [0xCB, 0x1B] =
    some ⟨some .ok, { Regs.reset with e := 0x00 }, 0x90, 0xFFFE, 0x0102, []⟩ := by rfl

/-- R153: `SLA H`. -/
theorem test_R153_SLA_H :
    sees
      { start with regs := { Regs.reset with h := 0x80 }, flags := Flags.ofByte 0x00 }
      [0xCB, 0x24] =
    some ⟨some .ok, { Regs.reset with h := 0x00 }, 0x90, 0xFFFE, 0x0102, []⟩ := by rfl

/-- R154: `SRA L`. -/
theorem test_R154_SRA_L :
    sees
      { start with regs := { Regs.reset with l := 0x81 }, flags := Flags.ofByte 0x00 }
      [0xCB, 0x2D] =
    some ⟨some .ok, { Regs.reset with l := 0xC0 }, 0x10, 0xFFFE, 0x0102, []⟩ := by rfl

/-- R155: `SWAP A`. -/
theorem test_R155_SWAP_A :
    sees
      { start with regs := { Regs.reset with a := 0xF0 }, flags := Flags.ofByte 0x10 }
      [0xCB, 0x37] =
    some ⟨some .ok, { Regs.reset with a := 0x0F }, 0x00, 0xFFFE, 0x0102, []⟩ := by rfl

/-- R156: `SRL A`. -/
theorem test_R156_SRL_A :
    sees
      { start with regs := { Regs.reset with a := 0x01 }, flags := Flags.ofByte 0x00 }
      [0xCB, 0x3F] =
    some ⟨some .ok, { Regs.reset with a := 0x00 }, 0x90, 0xFFFE, 0x0102, []⟩ := by rfl

/-- R157: `BIT 7,H`. -/
theorem test_R157_BIT_7_H :
    sees
      { start with regs := { Regs.reset with h := 0x80 }, flags := Flags.ofByte 0x10 }
      [0xCB, 0x7C] =
    some ⟨some .ok, { Regs.reset with h := 0x80 }, 0x30, 0xFFFE, 0x0102, []⟩ := by rfl

/-- R158: `RES 0,A`. -/
theorem test_R158_RES_0_A :
    sees
      { start with regs := { Regs.reset with a := 0xFF }, flags := Flags.ofByte 0xF0 }
      [0xCB, 0x87] =
    some ⟨some .ok, { Regs.reset with a := 0xFE }, 0xF0, 0xFFFE, 0x0102, []⟩ := by rfl

/-- R159: `SET 7,B`. -/
theorem test_R159_SET_7_B :
    sees
      { start with regs := { Regs.reset with b := 0x00 } }
      [0xCB, 0xF8] =
    some ⟨some .ok, { Regs.reset with b := 0x80 }, 0xB0, 0xFFFE, 0x0102, []⟩ := by rfl

/-- R160: `NOP`. -/
theorem test_R160_NOP :
    sees
      { start with pc := 0x0000 }
      [0x00] =
    some ⟨some .ok, Regs.reset, 0xB0, 0xFFFE, 0x0001, []⟩ := by rfl

/-- R161: `HALT`. -/
theorem test_R161_HALT :
    sees
      { start with pc := 0x0200 }
      [0x76] =
    some ⟨some (.unimplemented 0x76), Regs.reset, 0xB0, 0xFFFE, 0x0201, []⟩ := by rfl

/-- R162: `STOP`. -/
theorem test_R162_STOP :
    sees
      { start with pc := 0x0200 }
      [0x10, 0x00] =
    some ⟨some (.unimplemented 0x10), Regs.reset, 0xB0, 0xFFFE, 0x0202, []⟩ := by rfl

/-- R163: `DI`. -/
theorem test_R163_DI :
    sees
      { start with pc := 0x0150 }
      [0xF3] =
    some ⟨some (.unimplemented 0xF3), Regs.reset, 0xB0, 0xFFFE, 0x0151, []⟩ := by rfl

/-- R164: `EI`. -/
theorem test_R164_EI :
    sees
      { start with pc := 0x0150 }
      [0xFB] =
    some ⟨some (.unimplemented 0xFB), Regs.reset, 0xB0, 0xFFFE, 0x0151, []⟩ := by rfl

/-- R165: `RETI`. -/
theorem test_R165_RETI :
    sees
      { start with sp := 0xFFFC, mem := Memory.ofCells [(0xFFFC, 0x53), (0xFFFD, 0x01)] }
      [0xD9] =
    some ⟨some (.unimplemented 0xD9), Regs.reset, 0xB0, 0xFFFC, 0x0101, []⟩ := by rfl

/-- R166: `ILLEGAL_D3`. -/
theorem test_R166_ILLEGAL_D3 :
    sees
      { start with pc := 0x0000 }
      [0xD3] =
    some ⟨some (.faulted (.fatal 0xD3 0x0000)), Regs.reset, 0xB0, 0xFFFE, 0x0001, []⟩ := by rfl

/-- R167: `CB (sub 0x00 from 0x0000)`. -/
theorem test_R167_CB_sub_0x00_from_0x0000 :
    sees
      { start with regs := { Regs.reset with b := 0x01 }, pc := 0xFFFF, mem := Memory.ofCells [(0x0000, 0x00)] }
      [0xCB] =
    some ⟨some .ok, { Regs.reset with b := 0x02 }, 0x00, 0xFFFE, 0x0001, []⟩ := by rfl

/-! ## Outcomes, parameters, other agents -/

/-- R87: AND_SETS_H = true makes AND set H. -/
theorem test_and_sets_h :
    sees { start with params := { Params.default with andSetsH := true } } [0xE6, 0x01] =
    some ⟨some .ok, Regs.reset, 0x20, 0xFFFE, 0x0102, []⟩ := by rfl

/-- R162: with STOP_LEN = 1 the PC moves one byte. -/
theorem test_stop_of_one_byte :
    sees { start with params := { Params.default with stopLen := .one } } [0x10] =
    some ⟨some (.unimplemented 0x10), Regs.reset, 0xB0, 0xFFFE, 0x0101, []⟩ := by rfl

/-- R172: a set stop signal ends the step before any bus access. -/
theorem test_stopped :
    step { start with stopRequested := true } =
    .next { start with stopRequested := true, lastOutcome := some .stopped } := by rfl

/-- R70: a Faulted engine returns its outcome again. -/
theorem test_faulted_again :
    step { start with runState := .faulted (.fatal 0xD3 0x0100) } =
    .next { start with
      runState := .faulted (.fatal 0xD3 0x0100), lastOutcome := some (.faulted (.fatal 0xD3 0x0100)) } := by rfl

/-- The outcome a step reports. -/
def outcome (s : State) (bytes : List Byte) : Option StepOutcome :=
  match step { s with mem := s.mem.load s.pc bytes } with
  | .next t => t.lastOutcome
  | .fault _ => none
  | .refused _ => none

/-- R171: a broken bus at the opcode read: no opcode. -/
theorem test_broken_at_the_opcode :
    outcome { start with busBroken := true } [0x00] = some (.faulted (.resourceFault 0x0100 none)) := by rfl

/-- R171: the bus breaks between the opcode byte and the operand of LD B,n8. -/
theorem test_broken_at_an_operand :
    outcome { start with schedule := [[], [], [.breakBus]] } [0x06, 0x12] =
    some (.faulted (.resourceFault 0x0100 (some 0x06))) := by rfl

/-- R171: the bus breaks before the second write of CALL. -/
theorem test_broken_at_the_second_push :
    outcome { start with schedule := [[], [], [], [], [], [.breakBus]] } [0xCD, 0x00, 0xC0] =
    some (.faulted (.resourceFault 0x0100 (some 0xCD))) := by rfl

/-- R43: another agent writes between the read and the write of INC (HL); the write back wins. -/
theorem test_write_between_read_and_write_back :
    sees
      { start with
        regs := { Regs.reset with h := 0x80, l := 0xFF }, mem := Memory.ofCells [(0xFF80, 0x0F)]
        schedule := [[], [], [], [.rendererWrite 0xFF80 0x55]] }
      [0x34] =
    some ⟨some .ok, { Regs.reset with h := 0x80, l := 0xFF }, 0x30, 0xFFFE, 0x0101, [(0xFF80, 0x10)]⟩ := by rfl

/-- R45: the renderer cannot write outside EXT_WRITE_SET. -/
theorem test_renderer_write_outside_its_set : start.applyBatch [.rendererWrite 0xC000 0x55] = start := by rfl

/-- R186: the host sets PC before the first step and not after it. -/
theorem test_host_sets_pc :
    State.reset.hostSetPc 0x0150 = some { State.reset with pc := 0x0150 } ∧
    State.reset.markStarted.hostSetPc 0x0150 = none := by decide

/-- R185: an image of 0x10000 bytes is taken and a longer one is refused. -/
theorem test_image_bounds :
    (construct ⟨0, [], List.replicate 0x10000 0x76, Params.default⟩).isSome = true ∧
    construct ⟨0, [], List.replicate 0x10001 0x76, Params.default⟩ = none := by
  unfold construct
  rw [if_pos (by rw [List.length_replicate]), if_neg (by rw [List.length_replicate]; decide)]
  exact ⟨rfl, rfl⟩

/-- R185: an image lies at 0x0000 upward. -/
theorem test_image_placed :
    (construct ⟨0xFFFE, [(0xC000, 7)], [0x3E, 0x42], Params.default⟩).map
      (fun s => (s.mem.read 0x0000, s.mem.read 0x0001, s.mem.read 0x0002, s.mem.read 0xC000, s.sp)) =
    some (0x3E, 0x42, 0x00, 0x07, 0xFFFE) := by rfl

/-- A placed word runs as the first instruction after reset: SET 7,A and LD A,n8 with n8 = 0. -/
theorem test_first_instruction :
    (match step (State.reset.withFetchWord 16 0xCBFF) with | .next t => some t.regs.a | _ => none) = some 0x81 ∧
    (match step (State.reset.withFetchWord 16 0x3E) with | .next t => some t.regs.a | _ => none) = some 0x00 := by
  exact ⟨rfl, rfl⟩

/-! ## Witnesses: states and operands that meet the hypotheses of the obligations -/

/-- A state whose bus breaks just before its second access. -/
def breaksSecond : State := { start with schedule := [[], [.breakBus]] }

theorem breaksSecond_at : breaksSecond.BreaksAt 1 := ⟨.inr (by decide), by decide⟩

/-- A state whose bus breaks just before its first access. -/
def breaksFirst : State := { start with schedule := [[.breakBus]] }

theorem breaksFirst_at : breaksFirst.BreaksAt 0 := ⟨.inl rfl, by decide⟩

/-- The bus is whole at any number of accesses of the start state. -/
theorem start_up (n : Nat) : start.BusUp n := by
  right
  induction n with
  | zero => rfl
  | succ k ih => exact ih

theorem witness_FlagCodecLaws : (0xB0 : Byte) &&& 0x0F = 0 ∧ (0xF0 : Byte) &&& 0x0F = 0 ∧ (0x00 : Byte) &&& 0x0F = 0 := by decide

theorem witness_PairWrites : Pair.hl ≠ .af ∧ (0xF0FF : Addr).toNat / 256 % 16 = 0 ∧ (0x0100 : Addr).toNat / 256 % 16 ≠ 0 := by
  decide

theorem witness_ConstructionState :
    ∃ s, construct ⟨0xFFFE, [(0xC000, 7)], [0x00], { Params.default with andSetsH := true }⟩ = some s := ⟨_, rfl⟩

/-- The image clauses at their boundary: the last byte of the image and the first address after it. -/
theorem witness_ProgramImage :
    ∃ s, construct ⟨0, [], [0x3E, 0x42], Params.default⟩ = some s ∧ 1 < [0x3E, 0x42].length ∧
      [(0x3E : Byte), 0x42].length ≤ (0x0002 : Addr).toNat := ⟨_, rfl, by decide, by decide⟩

theorem witness_HostSetsRegistersOnlyBeforeTheFirstStep :
    State.reset.started = false ∧ State.reset.markStarted.started = true ∧
    State.reset.runState = .running ∧ State.reset.admitOne.stopRequested = false := by decide

theorem witness_CanonicalMemoriesAreEqualData :
    Memory.wf [(0x0000, 1), (0xFFFF, 2)] = true ∧ Memory.wf (Memory.ofCells [(0xFFFF, 2), (0x0000, 1)]) = true ∧
    ∀ a, Memory.read [(0x0000, 1), (0xFFFF, 2)] a = Memory.read (Memory.ofCells [(0xFFFF, 2), (0x0000, 1)]) a :=
  ⟨by decide, by decide, fun _ => rfl⟩

/-- The ends of the page, a range that leaves its ends out, a broken bus that a step goes on with, and a schedule to take from. -/
theorem witness_OtherAgents :
    rendererMayWrite Params.default 0xFFFF = true ∧
    rendererMayWrite { Params.default with extWriteSet := [(0x40, 0x4B)] } 0xFF4B = true ∧
    rendererMayWrite { Params.default with extWriteSet := [(0x40, 0x4B)] } 0xFF3F = false ∧
    State.busBroken { start with busBroken := true } = true ∧ (∃ t, step { start with busBroken := true } = .next t) ∧
    start.schedule = [] ∧ breaksFirst.schedule = [.breakBus] :: [] :=
  ⟨by decide, by decide, by decide, rfl, ⟨_, rfl⟩, rfl, rfl⟩

theorem witness_RendererWritesOnlyItsSet :
    rendererMayWrite Params.default 0xFF00 = true ∧ rendererMayWrite Params.default 0xFEFF = false ∧
    ∀ e ∈ [ExtEvent.rendererRead 0x1000, .rendererWrite 0xFF00 1, .rendererWrite 0xFEFF 1],
      (∃ a, e = .rendererRead a) ∨ (∃ a v, e = .rendererWrite a v) := by
  refine ⟨by decide, by decide, ?_⟩
  intro e h
  simp only [List.mem_cons, List.not_mem_nil, or_false] at h
  rcases h with rfl | rfl | rfl
  · exact .inl ⟨_, rfl⟩
  · exact .inr ⟨_, _, rfl⟩
  · exact .inr ⟨_, _, rfl⟩

/-- A Faulted state that meets the invariant. -/
def faultedState : State :=
  { start with
    started := true, runState := .faulted (.fatal 0xD3 0x0100), lastOutcome := some (.faulted (.fatal 0xD3 0x0100)) }

theorem witness_FaultedEngineReturnsItsOutcome : faultedState.runState = .faulted (.fatal 0xD3 0x0100) := rfl

theorem witness_StopSignalEndsTheStep :
    State.runState { start with schedule := [[.requestStop]] } = .running ∧
    (State.admitOne { start with schedule := [[.requestStop]] }).stopRequested = true := by decide

theorem witness_StepDispatchesWhatItFetched :
    start.runState = .running ∧ start.admitOne.stopRequested = false ∧
    ∃ d t, fetch { start.admitOne with started := true } = .ok d t ∧ d.instr = .nop := ⟨rfl, rfl, _, _, rfl, rfl⟩

theorem witness_StepRunsTheBytesAtPc :
    start.Quiet ∧ start.runState = .running ∧ start.stopRequested = false ∧
    decode start.params.stopLen [start.mem.read start.pc, start.mem.read (start.pc + 1), start.mem.read (start.pc + 2)] =
      .ok (.nop, [0x00, 0x00]) := ⟨⟨rfl, rfl⟩, rfl, rfl, rfl⟩

/-- A state at JP a16 whose bus breaks just before the read of the second operand byte. -/
def breaksAtOperand : State := { start with mem := [(0x0100, 0xC3)], schedule := [[], [], [], [.breakBus]] }

/-- The two places: the opcode read, and a later byte with the opcode read whole. -/
theorem witness_BrokenBusAtTheFetch :
    breaksSecond.runState = .running ∧ breaksSecond.admitOne.stopRequested = false ∧ (breaksSecond.admits 2).busBroken = true ∧
    breaksAtOperand.runState = .running ∧ breaksAtOperand.admitOne.stopRequested = false ∧
    (breaksAtOperand.admits 2).busBroken = false ∧
    breaksAtOperand.admitOne.admitOne.BusDown
      (extraBytes breaksAtOperand.params.stopLen (breaksAtOperand.admitOne.valueAt breaksAtOperand.pc)) := by
  refine ⟨by decide, by decide, by decide, by decide, by decide, by decide, by constructor <;> decide⟩

theorem witness_DecodeOfEncode :
    (Instr.jp_a16 0xFFFF).wellFormed .one = true ∧ (Instr.stop none).wellFormed .one = true ∧
    (Instr.stop (some 0xFF)).wellFormed .two = true ∧ Instr.set_7_A.wellFormed .two = true := by decide

theorem witness_EncodeOfDecode :
    decode .two [0xC3, 0xFF, 0xFF, 0x01] = .ok (.jp_a16 0xFFFF, [0x01]) ∧ decode .one [0x10] = .ok (.stop none, []) :=
  ⟨rfl, rfl⟩

/-- The clauses on both sides of the boundary: two bytes after C3 are enough, one is not. -/
theorem witness_DecodeRefusesOnlyTruncation :
    extraBytes .two 0xC3 ≤ [(0x34 : Byte), 0x12].length ∧ [(0x34 : Byte)].length < extraBytes .two 0xC3 := by decide

theorem witness_AccumulatorOperations :
    start.Gives (.reg .b) 0x00 start ∧ start.Gives (.imm 0xFF) 0xFF start ∧
    start.Gives .mHL (start.valueAt start.hl) (start.afterRead start.hl) ∧
    breaksFirst.BreaksAt 0 := ⟨⟨rfl, rfl⟩, ⟨rfl, rfl⟩, ⟨start_up 1, rfl, rfl⟩, breaksFirst_at⟩

theorem witness_IncrementAndDecrement : start.BusUp 2 ∧ 0x00 = start.valueAt start.hl ∧
    breaksFirst.BreaksAt 0 ∧ breaksSecond.BreaksAt 1 := ⟨start_up 2, rfl, breaksFirst_at, breaksSecond_at⟩

/-- Both branches of DAA. -/
theorem witness_DecimalAdjust :
    (Flags.ofByte 0x00).n = false ∧ (Flags.ofByte 0x40).n = true := by decide

/-- The displacements -128, -1 and 127 at SP = 0 and SP = 0xFFFF. -/
theorem witness_StackPointerPlusDisplacement :
    ∃ f : Flags, f = { z := false, n := false
                       h := decide ((0xFFFF : Addr).toNat % 16 + (0x80 : Byte).toNat % 16 > 15)
                       c := decide ((0xFFFF : Addr).toNat % 256 + (0x80 : Byte).toNat > 255) } ∧
      f.h = false ∧ f.c = true := ⟨_, rfl, by decide, by decide⟩

theorem witness_LoadsFromMemory : start.BusUp 1 ∧ breaksFirst.BreaksAt 0 := ⟨start_up 1, breaksFirst_at⟩

theorem witness_OneByteStores : start.BusUp 1 ∧ State.BreaksAt { start with busBroken := true } 0 :=
  ⟨start_up 1, .inl rfl, by decide⟩

theorem witness_StoreStackPointer : start.BusUp 2 ∧ breaksFirst.BreaksAt 0 ∧ breaksSecond.BreaksAt 1 :=
  ⟨start_up 2, breaksFirst_at, breaksSecond_at⟩

theorem witness_PushPair : start.BusUp 2 ∧ breaksFirst.BreaksAt 0 ∧ breaksSecond.BreaksAt 1 :=
  ⟨start_up 2, breaksFirst_at, breaksSecond_at⟩

/-- The stack wraps: SP is 0xFFFF. -/
theorem witness_PopPair :
    State.BusUp { start with sp := 0xFFFF, mem := [(0x0000, 0x12), (0xFFFF, 0x34)] } 2 ∧
    0x34 = State.valueAt { start with sp := 0xFFFF, mem := [(0x0000, 0x12), (0xFFFF, 0x34)] } 0xFFFF ∧
    0x12 = (State.afterRead { start with sp := 0xFFFF, mem := [(0x0000, 0x12), (0xFFFF, 0x34)] } 0xFFFF).valueAt (0xFFFF + 1) ∧
    breaksFirst.BreaksAt 0 ∧ breaksSecond.BreaksAt 1 := ⟨.inr rfl, rfl, rfl, breaksFirst_at, breaksSecond_at⟩

theorem witness_PopReturnsWhatWasPushed : start.Quiet := ⟨rfl, rfl⟩

/-- Taken, not taken, and the bus broken. -/
theorem witness_CallsAndRestarts :
    start.cond .z = true ∧ start.BusUp 2 ∧ start.cond .nz = false ∧
    breaksFirst.BreaksAt 0 ∧ breaksSecond.BreaksAt 1 ∧ breaksSecond.cond .z = true :=
  ⟨rfl, start_up 2, rfl, breaksFirst_at, breaksSecond_at, rfl⟩

theorem witness_Returns :
    start.BusUp 2 ∧ 0x00 = start.valueAt start.sp ∧ 0x00 = (start.afterRead start.sp).valueAt (start.sp + 1) ∧
    start.cond .c = true ∧ start.cond .nc = false ∧ breaksFirst.BreaksAt 0 ∧ breaksSecond.BreaksAt 1 ∧
    breaksSecond.cond .c = true := ⟨start_up 2, rfl, rfl, rfl, rfl, breaksFirst_at, breaksSecond_at, rfl⟩

theorem witness_ReturnComesBackToTheCall : start.Quiet := ⟨rfl, rfl⟩

theorem witness_PrefixedRotatesAndShifts :
    (∃ out, out = (rotShifted .rl (start.reg .a) start.flags.c).out ∧ out = 0x03) ∧
    start.BusUp 2 ∧ 0x00 = start.valueAt start.hl ∧ 0x01 = (rotShifted .rl 0x00 start.flags.c).out ∧
    breaksFirst.BreaksAt 0 ∧ breaksSecond.BreaksAt 1 :=
  ⟨⟨_, rfl, rfl⟩, start_up 2, rfl, rfl, breaksFirst_at, breaksSecond_at⟩

theorem witness_BitOperations :
    start.BusUp 1 ∧ start.BusUp 2 ∧ 0x00 = start.valueAt start.hl ∧ breaksFirst.BreaksAt 0 ∧
    breaksSecond.BreaksAt 1 := ⟨start_up 1, start_up 2, rfl, breaksFirst_at, breaksSecond_at⟩

theorem witness_SentinelOpcodes : (0xD3 : Byte) ∈ holeOpcodes ∧ (0xFD : Byte) ∈ holeOpcodes := by decide

theorem witness_WiredInstructionsEndWithOk :
    (Operation.call 0xC000).wired = true ∧ start.BusUp (((Operation.call 0xC000).resolve.accesses start).length) :=
  ⟨rfl, start_up _⟩

theorem witness_BrokenBusIsAResourceFault :
    1 < ((Operation.prefixCb 0x06).resolve.accesses breaksSecond).length ∧ breaksSecond.BreaksAt 1 :=
  ⟨by decide, breaksSecond_at⟩

/-- The hypotheses of the frames, with a register, a byte and an effect of each kind left alone. -/
theorem witness_FlagsFollowTheTable :
    start.BusUp (((Operation.inc .mHL).resolve.accesses start).length) ∧
    ∃ t, exec (Operation.inc .mHL).instr start = .next t := ⟨start_up _, _, rfl⟩

theorem witness_RegisterFrame :
    start.BusUp (((Operation.ldAccInd .hlInc).resolve.accesses start).length) ∧
    (∃ t, exec (Operation.ldAccInd .hlInc).instr start = .next t) ∧
    Reg8.b ∉ (Operation.ldAccInd .hlInc).resolve.registers ∧ (Operation.ldAccInd .hlInc).resolve.writesSp = false ∧
    (Operation.ldAccInd .hlInc).resolve.writesPc = false := ⟨start_up _, ⟨_, rfl⟩, by decide, rfl, rfl⟩

/-- The byte just above the two that a push stores to. -/
theorem witness_MemoryFrame :
    start.BusUp (((Operation.push .bc).resolve.accesses start).length) ∧
    (∃ t, exec (Operation.push .bc).instr start = .next t) ∧
    (0xFFFE : Addr) ∉ (Operation.push .bc).resolve.stores start ∧ start.schedule = [] :=
  ⟨start_up _, ⟨_, rfl⟩, by decide, rfl⟩

theorem witness_EngineAccessOrder :
    start.BusUp (((Operation.ldAbsSp 0xFFFF).resolve.accesses start).length) ∧
    ∃ t, exec (Operation.ldAbsSp 0xFFFF).instr start = .next t := ⟨start_up _, _, rfl⟩

theorem witness_HostStateIsOutOfReach :
    State.BusUp { start with schedule := [[.requestStop], [.clearStop]] }
      (((Operation.ret).resolve.accesses { start with schedule := [[.requestStop], [.clearStop]] }).length) ∧
    ∃ t, exec Operation.ret.instr { start with schedule := [[.requestStop], [.clearStop]] } = .next t :=
  ⟨.inr (by decide), _, rfl⟩

theorem witness_UnimplementedIsRecoverable :
    ∃ t, step { start with mem := [(0x0100, 0x76)] } = .next t ∧ t.lastOutcome = some (.unimplemented 0x76) :=
  ⟨_, rfl, rfl⟩

theorem witness_FaultedForever : faultedState.runState = .faulted (.fatal 0xD3 0x0100) ∧ (2 : Nat) ≠ 0 := ⟨rfl, by decide⟩

theorem witness_ObserversDoNotDisturb :
    ∃ t, step { start with schedule := [[.hostRead 0x0100], [.rendererRead 0xFF00, .hostWrite 0x0101 1]] } = .next t :=
  ⟨_, rfl⟩

theorem witness_InvariantHoldsAfterConstruction : construct ⟨0, [], [], Params.default⟩ = some State.reset := by decide

theorem witness_EveryStepKeepsTheInvariant : State.reset.Inv ∧ ∃ t, step State.reset = .next t := by
  refine ⟨⟨rfl, ?_, ?_, ?_, ?_, fun _ => rfl, ?_⟩, _, rfl⟩ <;> simp [State.reset]

/-- A Faulted state meets the invariant too. -/
theorem witness_EveryStepKeepsTheInvariant_faulted : faultedState.Inv := by
  refine ⟨rfl, ?_, ?_, ?_, ?_, fun _ => rfl, fun _ _ => rfl⟩ <;> simp [faultedState, holeOpcodes]

theorem witness_BusIsCoherentAfterConstruction :
    ∃ s, construct ⟨0xFFFE, [(0xC000, 7)], [0x3E], Params.default⟩ = some s := ⟨_, rfl⟩

theorem witness_EveryStepKeepsTheBusCoherent : State.reset.Coherent [] ∧ ∃ t, step State.reset = .next t :=
  ⟨.inr ⟨fun _ => rfl, trivial⟩, _, rfl⟩

end Sys2Proof.Tests
end

section
/-! ## What an instruction leaves of the record of engine accesses and of the host's side of the machine

One access of the engine is a point at which the other agents act, and then one entry in the record (R43, R47, R48). So the
accesses of an execute phase add themselves to the record, and of the host's side of the machine they leave what that many
such points leave. -/

namespace Sys2Proof.Machine

/-! ### The host's side of the machine (R7, R29, R30, R47) -/

/-- The fields of a state that no instruction writes: the host's signal, the condition of the bus, whether a step has begun,
the parameters of R7, and what the other agents do next. -/
structure HostSide where
  stopRequested : Bool
  busBroken : Bool
  started : Bool
  params : Params
  schedule : List (List ExtEvent)

/-- The host's side of a state. -/
def State.hostSide (s : State) : HostSide := ⟨s.stopRequested, s.busBroken, s.started, s.params, s.schedule⟩

theorem State.hostSide_eq_iff {s t : State} :
    s.hostSide = t.hostSide ↔ s.stopRequested = t.stopRequested ∧ s.busBroken = t.busBroken ∧ s.started = t.started ∧
      s.params = t.params ∧ s.schedule = t.schedule := by
  simp [State.hostSide]

/-- What an event makes of the host's side depends on the host's side alone. -/
theorem State.applyExt_hostSide_congr {s t : State} (h : s.hostSide = t.hostSide) (e : ExtEvent) :
    (s.applyExt e).hostSide = (t.applyExt e).hostSide := by
  rw [State.hostSide_eq_iff] at h ⊢
  obtain ⟨hstop, hbus, hstarted, hparams, hschedule⟩ := h
  refine ⟨?_, by simp [hbus], by simp [hstarted], by simp [hparams], by simp [hschedule]⟩
  cases e with
  | rendererWrite a v => simp only [State.applyExt]; split <;> split <;> exact hstop
  | requestStop | clearStop => rfl
  | rendererRead _ | hostRead _ | hostWrite _ _ | breakBus => exact hstop

theorem State.applyBatch_hostSide_congr {s t : State} (h : s.hostSide = t.hostSide) (l : List ExtEvent) :
    (s.applyBatch l).hostSide = (t.applyBatch l).hostSide := by
  induction l generalizing s t with
  | nil => exact h
  | cons e rest ih => exact ih (State.applyExt_hostSide_congr h e)

theorem State.admit_hostSide_congr {s t : State} (h : s.hostSide = t.hostSide) :
    s.admitOne.hostSide = t.admitOne.hostSide := by
  obtain ⟨hstop, hbus, hstarted, hparams, hschedule⟩ := State.hostSide_eq_iff.mp h
  unfold State.admitOne
  rw [← hschedule]
  cases s.schedule with
  | nil => exact h
  | cons batch rest =>
    have hrest : State.hostSide { s with schedule := rest } = State.hostSide { t with schedule := rest } :=
      State.hostSide_eq_iff.mpr ⟨hstop, hbus, hstarted, hparams, rfl⟩
    exact State.applyBatch_hostSide_congr hrest batch

theorem State.admits_schedule (s : State) (n : Nat) : (s.admits n).schedule = s.schedule.drop n := by
  induction n generalizing s with
  | zero => rfl
  | succ k ih => simp [State.admits, ih]

/-! ### The accesses made -/

/-- The engine made the accesses `plan` between `s` and `t`, the other agents acting before each. -/
structure State.Made (s : State) (plan : List (Access × Addr)) (t : State) : Prop where
  record : engineAccesses t.busLog = plan.reverse ++ engineAccesses s.busLog
  host : t.hostSide = (s.admits plan.length).hostSide

/-- The engine worked from `s` to `t` off the bus: neither the record nor the host's side changed. -/
structure State.OffBus (s t : State) : Prop where
  record : t.busLog = s.busLog
  host : t.hostSide = s.hostSide

section
variable {s t u : State} {plan : List (Access × Addr)}

theorem State.OffBus.trans (h : s.OffBus t) (hu : t.OffBus u) : s.OffBus u :=
  ⟨hu.record.trans h.record, hu.host.trans h.host⟩

theorem State.OffBus.made (h : s.OffBus t) : s.Made [] t := ⟨by rw [h.record]; rfl, h.host⟩

theorem State.Made.offBus (h : s.Made plan t) (hu : t.OffBus u) : s.Made plan u :=
  ⟨by rw [hu.record, h.record], hu.host.trans h.host⟩

theorem State.made_afterRead (s : State) (a : Addr) : s.Made [(.read, a)] (s.afterRead a) := ⟨by simp, rfl⟩

theorem State.made_afterWrite (s : State) (a : Addr) (v : Byte) : s.Made [(.write, a)] (s.afterWrite a v) := ⟨by simp, rfl⟩

theorem State.Made.afterRead {x : Access × Addr} (h : s.Made [x] t) (a : Addr) :
    s.Made [x, (.read, a)] (t.afterRead a) :=
  ⟨by simp [h.record], State.admit_hostSide_congr h.host⟩

theorem State.Made.afterWrite {x : Access × Addr} (h : s.Made [x] t) (a : Addr) (v : Byte) :
    s.Made [x, (.write, a)] (t.afterWrite a v) :=
  ⟨by simp [h.record], State.admit_hostSide_congr h.host⟩

/-! ### Work off the bus -/

theorem State.offBus_refl (s : State) : s.OffBus s := ⟨rfl, rfl⟩

theorem State.offBus_returning (s : State) (o : StepOutcome) : s.OffBus (s.returning o) := ⟨rfl, rfl⟩

theorem State.offBus_setReg (s : State) (r : Reg8) (v : Byte) : s.OffBus (s.setReg r v) := ⟨rfl, rfl⟩

theorem State.offBus_setPair (s : State) (p : Pair) (v : Addr) : s.OffBus (s.setPair p v) := by
  cases p <;> exact ⟨rfl, rfl⟩

theorem State.offBus_setWide (s : State) (p : Wide) (v : Addr) : s.OffBus (s.setWide p v) := by
  cases p <;> exact ⟨rfl, rfl⟩

theorem State.offBus_stepIndirect (s : State) (p : Indirect) (a : Addr) : s.OffBus (s.stepIndirect p a) := by
  cases p <;> exact ⟨rfl, rfl⟩

theorem State.offBus_aluOn (s : State) (k : AluOp) (v : Byte) : s.OffBus (aluOn k v s) := by
  cases k <;> exact ⟨rfl, rfl⟩

/-! ### Uses of the bus that find it whole -/

/-- A use of the bus, begun in `s`, that happened and made the accesses `plan`. -/
def Bus.Makes {α : Type} (m : Bus α) (s : State) (plan : List (Access × Addr)) : Prop :=
  ∃ v t, m = .ok v t ∧ s.Made plan t

theorem Bus.Makes.andThen_offBus {α β : Type} {m : Bus α} (h : m.Makes s plan) {g : α → State → β}
    {f : α → State → State} (hf : ∀ v (t : State), t.OffBus (f v t)) :
    (m.andThen fun v t => .ok (g v t) (f v t)).Makes s plan := by
  obtain ⟨v, t, rfl, ht⟩ := h
  exact ⟨_, _, rfl, ht.offBus (hf v t)⟩

theorem State.BusUp.whole {n : Nat} (h : s.BusUp (n + 1)) : (s.admits (n + 1)).busBroken = false :=
  h.resolve_left n.succ_ne_zero

theorem busRead_makes (a : Addr) (h : s.BusUp 1) : (busRead a s).Makes s [(.read, a)] :=
  ⟨_, _, busRead_ok s a h.whole, s.made_afterRead a⟩

theorem busWrite_makes (a : Addr) (v : Byte) (h : s.BusUp 1) : (busWrite a v s).Makes s [(.write, a)] :=
  ⟨_, _, busWrite_ok s a v h.whole, s.made_afterWrite a v⟩

theorem busWrite16_makes (a v : Addr) (h : s.BusUp 2) : (busWrite16 a v s).Makes s [(.write, a), (.write, a + 1)] :=
  ⟨_, _, busWrite16_ok s a v h.whole, (s.made_afterWrite _ _).afterWrite _ _⟩

theorem push16_makes (v : Addr) (h : s.BusUp 2) : (push16 v s).Makes s s.pushAccesses :=
  ⟨_, _, push16_ok s v h.whole, ((s.made_afterWrite _ _).afterWrite _ _).offBus ⟨rfl, rfl⟩⟩

theorem pop16_makes (h : s.BusUp 2) : (pop16 s).Makes s s.popAccesses :=
  ⟨_, _, pop16_ok s h.whole, ((s.made_afterRead _).afterRead _).offBus ⟨rfl, rfl⟩⟩

theorem withMHL_makes {k : Byte → State → State} (hk : ∀ v (t : State), t.OffBus (k v t)) (h : s.BusUp 1) :
    (withMHL k s).Makes s [(.read, s.hl)] :=
  (busRead_makes s.hl h).andThen_offBus hk

theorem modifyMHL_makes (f : Byte → State → Byte) {k : Byte → State → State} (hk : ∀ v (t : State), t.OffBus (k v t))
    (h : s.BusUp 2) : (modifyMHL f k s).Makes s [(.read, s.hl), (.write, s.hl)] :=
  ⟨_, _, modifyMHL_ok s f k h.whole, ((s.made_afterRead _).afterWrite _ _).offBus (hk _ _)⟩

theorem modifyMem_makes (f : Byte → Flags → Result8) (h : s.BusUp 2) :
    (modifyMem f s).Makes s [(.read, s.hl), (.write, s.hl)] :=
  modifyMHL_makes _ (fun _ _ => ⟨rfl, rfl⟩) h

theorem rewriteMem_makes (f : Byte → Byte) (h : s.BusUp 2) :
    (rewriteMem f s).Makes s [(.read, s.hl), (.write, s.hl)] :=
  modifyMHL_makes _ (fun _ t => t.offBus_refl) h

theorem callBus_makes (target : Addr) (h : s.BusUp 2) : (callBus target s).Makes s s.pushAccesses :=
  (push16_makes s.pc h).andThen_offBus fun _ _ => ⟨rfl, rfl⟩

theorem returnBus_makes (h : s.BusUp 2) : (returnBus s).Makes s s.popAccesses :=
  (pop16_makes h).andThen_offBus fun _ _ => ⟨rfl, rfl⟩

/-- A conditional transfer makes its accesses when it is taken, and none when it is not (R139, R141). -/
theorem ifTaken_makes {b : Bool} {m : Bus Unit} (hm : s.BusUp plan.length → m.Makes s plan)
    (h : s.BusUp (if b then plan else []).length) :
    (if b then m else .ok () s).Makes s (if b then plan else []) := by
  cases b with
  | false => exact ⟨(), s, rfl, s.offBus_refl.made⟩
  | true => exact hm h

/-! ### Every operation -/

/-- A meaning, run on `s`, that answers a next state and made the accesses `plan`. -/
def Result.Makes (r : Result) (s : State) (plan : List (Access × Addr)) : Prop :=
  ∃ t, r = .next t ∧ s.Made plan t

theorem finish_makes (i : Instr) {b : Bus Unit} (h : b.Makes s plan) : Result.Makes (finish i s b) s plan := by
  obtain ⟨_, t, rfl, ht⟩ := h
  exact ⟨_, rfl, ht.offBus (t.offBus_returning .ok)⟩

theorem next_makes (h : s.OffBus t) : Result.Makes (.next t) s [] := ⟨t, rfl, h.made⟩

theorem done_makes (h : s.OffBus t) : Result.Makes (done t) s [] := ⟨_, rfl, h.made.offBus (t.offBus_returning .ok)⟩

theorem jumpIf_makes (cc : Cond) (target : Addr) : Result.Makes (jumpIf cc target s) s [] := by
  unfold jumpIf
  split
  · exact done_makes ⟨rfl, rfl⟩
  · exact done_makes s.offBus_refl

/-- The row of the CB byte makes the accesses of the instruction its sub-opcode names (R167). -/
theorem cbInstruction_makes (i : Instr) (sub : Byte) (h : s.BusUp ((decodeCb sub).accesses s).length) :
    Result.Makes (cbInstruction i sub s) s ((decodeCb sub).accesses s) := by
  unfold cbInstruction
  unfold decodeCb at h ⊢
  generalize fieldX sub = x, operandOf (fieldZ sub) = o at h ⊢
  match x, o, h with
  | 0, .reg r, _ | 1, .reg r, _ | 2, .reg r, _ | _ + 3, .reg r, _ => exact done_makes ⟨rfl, rfl⟩
  | 0, .mHL, h => exact finish_makes i (modifyMem_makes _ h)
  | 1, .mHL, h => exact finish_makes i (withMHL_makes (fun _ _ => ⟨rfl, rfl⟩) h)
  | 2, .mHL, h | _ + 3, .mHL, h => exact finish_makes i (rewriteMem_makes _ h)

/-- Where the bus is whole at each access of an operation, the operation makes exactly those, in order (R43, R73). -/
theorem exec_instr_makes (op : Operation) (h : s.BusUp (op.resolve.accesses s).length) :
    Result.Makes (exec op.instr s) s (op.resolve.accesses s) := by
  rw [exec_instr]
  cases op with
  | ldMHLReg _ | ldMHLImm _ | ldAbsAcc _ | ldhAbsAcc _ | ldPortAcc => exact finish_makes _ (busWrite_makes _ _ h)
  | ldAccAbs _ | ldhAccAbs _ | ldAccPort =>
    exact finish_makes _ ((busRead_makes _ h).andThen_offBus fun _ _ => ⟨rfl, rfl⟩)
  | ldRegMHL _ => exact finish_makes _ (withMHL_makes (fun _ _ => ⟨rfl, rfl⟩) h)
  | ldAccInd p =>
    exact finish_makes _ ((busRead_makes _ h).andThen_offBus fun v t =>
      (t.offBus_setReg .a v).trans (State.offBus_stepIndirect _ p _))
  | ldIndAcc p => exact finish_makes _ ((busWrite_makes _ _ h).andThen_offBus fun _ t => t.offBus_stepIndirect p _)
  | ldAbsSp _ => exact finish_makes _ (busWrite16_makes _ _ h)
  | ldWideImm p _ | incWide p | decWide p => exact done_makes (s.offBus_setWide p _)
  | alu k src => cases src with
    | reg _ | imm _ => exact done_makes (s.offBus_aluOn k _)
    | mHL => exact finish_makes _ (withMHL_makes (fun v t => t.offBus_aluOn k v) h)
  | inc o | dec o | rot _ o => cases o with
    | reg _ => exact done_makes ⟨rfl, rfl⟩
    | mHL => exact finish_makes _ (modifyMem_makes _ h)
  | bit _ o => cases o with
    | reg _ => exact done_makes ⟨rfl, rfl⟩
    | mHL => exact finish_makes _ (withMHL_makes (fun _ _ => ⟨rfl, rfl⟩) h)
  | res _ o | set _ o => cases o with
    | reg _ => exact done_makes ⟨rfl, rfl⟩
    | mHL => exact finish_makes _ (rewriteMem_makes _ h)
  | push _ => exact finish_makes _ (push16_makes _ h)
  | pop p => exact finish_makes _ ((pop16_makes h).andThen_offBus fun v t => t.offBus_setPair p v)
  | jpIf cc _ | jrIf cc _ => exact jumpIf_makes cc _
  | call _ | rst _ => exact finish_makes _ (callBus_makes _ h)
  | callIf _ target => exact finish_makes _ (ifTaken_makes (callBus_makes target) h)
  | ret => exact finish_makes _ (returnBus_makes h)
  | retIf _ => exact finish_makes _ (ifTaken_makes returnBus_makes h)
  | prefixCb sub => exact cbInstruction_makes _ sub h
  | nop | ldRegReg _ _ | ldRegImm _ _ | ldSpHl | ldHlSp _ | addHl _ | addSp _ | accRot _ | daa | cpl | scf | ccf | jp _
  | jpHl | jr _ | halt | stop _ | di | ei | reti | illegal _ => exact next_makes ⟨rfl, rfl⟩

/-- The state an operation answers is one it made its accesses on the way to. -/
theorem made_of_exec_instr {op : Operation} (h : s.BusUp (op.resolve.accesses s).length) (he : exec op.instr s = .next t) :
    s.Made (op.resolve.accesses s) t := by
  obtain ⟨u, hu, made⟩ := exec_instr_makes op h
  obtain rfl : u = t := Host.Outcome.next.inj (hu.symm.trans he)
  exact made

end

/-! ### The obligations -/

/-- Settles O52: every operation makes its accesses in order, and one access is one batch and then the access itself. -/
theorem engineAccessOrder : Obligations.EngineAccessOrder :=
  ⟨fun _ _ _ h he => (made_of_exec_instr h he).record, fun _ _ _ => ⟨rfl, rfl, rfl⟩⟩

/-- Settles O53: an operation that makes its accesses leaves of the host's side what the batches before them leave. -/
theorem hostStateIsOutOfReach : Obligations.HostStateIsOutOfReach := by
  intro op s t h he
  obtain ⟨hstop, hbus, hstarted, hparams, hschedule⟩ := State.hostSide_eq_iff.mp (made_of_exec_instr h he).host
  exact ⟨hstop, hbus, hschedule.trans (s.admits_schedule _), hparams.trans (s.admits_params _),
    hstarted.trans (s.admits_started _)⟩

/-- Settles O6: with nothing listed and no image, construction changes no field of the reset state. -/
theorem resetIsAConstruction : Obligations.ResetIsAConstruction := by
  unfold Obligations.ResetIsAConstruction construct
  exact if_pos (Nat.zero_le _)

end Sys2Proof.Machine
end

section
/-! ## What follows from the order of the engine's accesses

Every meaning uses the bus as a plan of accesses: it makes them one after another, works on registers alone between them, and
ends where an access finds the bus broken. `Bus.Follows` says so once for each shared operation, whatever the bus does, and
the claims about a broken bus, about memory and about every step are read off it. -/

namespace Sys2Proof.Machine

/-! ### The points at which the other agents act (R47, R53) -/

theorem State.admits_busBroken_congr {s t : State} (hb : s.busBroken = t.busBroken) (hs : s.schedule = t.schedule) (n : Nat) :
    (s.admits n).busBroken = (t.admits n).busBroken := by
  induction n generalizing s t with
  | zero => exact hb
  | succ n ih => exact ih (State.admit_busBroken_congr hb hs) (by simp [hs])

theorem State.admits_read_congr {s t : State} (b : Addr) (hs : s.schedule = t.schedule) (hp : s.params = t.params)
    (h : s.mem.read b = t.mem.read b) (n : Nat) : (s.admits n).mem.read b = (t.admits n).mem.read b := by
  induction n generalizing s t with
  | zero => exact h
  | succ n ih => exact ih (by simp [hs]) (by simp [hp]) (State.admit_read_congr b hs hp h)

theorem State.admit_broken {s : State} (h : s.busBroken = true) : s.admitOne.busBroken = true := by
  simp [State.admit_busBroken, h]

/-- A broken bus stays broken, however many batches land (R53). -/
theorem State.admits_broken {s : State} (h : s.busBroken = true) (n : Nat) : (s.admits n).busBroken = true := by
  induction n generalizing s with
  | zero => exact h
  | succ n ih => exact ih (State.admit_broken h)

theorem State.busUp_succ {s : State} {n : Nat} : s.BusUp (n + 1) ↔ (s.admits (n + 1)).busBroken = false := by
  simp [State.BusUp]

/-- A bus that is whole at the last of some accesses is whole at the first of them. -/
theorem State.BusUp.first {s : State} {n : Nat} (h : s.BusUp (n + 1)) : s.admitOne.busBroken = false := by
  rw [State.busUp_succ, State.admits_succ] at h
  exact eq_false_of_ne_true fun hb => Bool.false_ne_true (h.symm.trans (State.admits_broken hb n))

/-- A bus broken at one of the next accesses is broken first at one of them. -/
theorem State.BusDown.exists_breaksAt {s : State} {n : Nat} (h : s.BusDown n) : ∃ k < n, s.BreaksAt k := by
  obtain ⟨hn, hb⟩ := h
  induction n with
  | zero => exact absurd rfl hn
  | succ n ih =>
    by_cases hup : s.BusUp n
    · exact ⟨n, n.lt_succ_self, hup, hb⟩
    · obtain ⟨hn0, hbn⟩ := not_or.mp hup
      obtain ⟨k, hk, hbreaks⟩ := ih hn0 (eq_true_of_ne_false hbn)
      exact ⟨k, hk.trans n.lt_succ_self, hbreaks⟩

/-! ### Work on registers alone -/

/-- The engine worked from `s` to `t` on its registers, flags, PC and SP alone. -/
def State.RegistersOnly (s t : State) : Prop := { s with regs := t.regs, flags := t.flags, pc := t.pc, sp := t.sp } = t

theorem State.registersOnly_refl (s : State) : s.RegistersOnly s := rfl

section
variable {s t : State} (h : s.RegistersOnly t)
include h

theorem State.RegistersOnly.mem : t.mem = s.mem := (congrArg State.mem h).symm
theorem State.RegistersOnly.busLog : t.busLog = s.busLog := (congrArg State.busLog h).symm
theorem State.RegistersOnly.busBroken : t.busBroken = s.busBroken := (congrArg State.busBroken h).symm
theorem State.RegistersOnly.schedule : t.schedule = s.schedule := (congrArg State.schedule h).symm
theorem State.RegistersOnly.params : t.params = s.params := (congrArg State.params h).symm
theorem State.RegistersOnly.runState : t.runState = s.runState := (congrArg State.runState h).symm
theorem State.RegistersOnly.started : t.started = s.started := (congrArg State.started h).symm

theorem State.RegistersOnly.admits_busBroken (n : Nat) : (t.admits n).busBroken = (s.admits n).busBroken :=
  State.admits_busBroken_congr h.busBroken h.schedule n

theorem State.RegistersOnly.breaksAt {n : Nat} : t.BreaksAt n ↔ s.BreaksAt n := by
  simp [State.BreaksAt, State.BusUp, h.admits_busBroken]

theorem State.RegistersOnly.busUp {n : Nat} : t.BusUp n ↔ s.BusUp n := by
  simp [State.BusUp, h.admits_busBroken]

end

theorem State.registersOnly_setPair (s : State) (p : Pair) (v : Addr) : s.RegistersOnly (s.setPair p v) := by
  cases p <;> rfl

theorem State.registersOnly_setWide (s : State) (p : Wide) (v : Addr) : s.RegistersOnly (s.setWide p v) := by
  cases p <;> rfl

theorem State.registersOnly_aluOn (s : State) (k : AluOp) (v : Byte) : s.RegistersOnly (aluOn k v s) := by
  cases k <;> rfl

theorem State.registersOnly_stepIndirect (s : State) (p : Indirect) (a : Addr) : s.RegistersOnly (s.stepIndirect p a) := by
  cases p <;> rfl

/-! ### One access -/

/-- The engine makes one access in `s`, the other agents acting first, and is then in `t`. -/
inductive State.Performs (s : State) : Access × Addr → State → Prop
  | read (a : Addr) : s.Performs (.read, a) (s.afterRead a)
  | write (a : Addr) (v : Byte) : s.Performs (.write, a) (s.afterWrite a v)

section
variable {s t : State} {x : Access × Addr} (h : s.Performs x t)
include h

theorem State.Performs.busBroken : t.busBroken = s.admitOne.busBroken := by cases h <;> simp
theorem State.Performs.schedule : t.schedule = s.admitOne.schedule := by cases h <;> simp
theorem State.Performs.params : t.params = s.admitOne.params := by cases h <;> simp
theorem State.Performs.engineAccesses : engineAccesses t.busLog = x :: engineAccesses s.busLog := by cases h <;> simp

/-- A byte the access does not store to is what the other agents left there (R35, R43). -/
theorem State.Performs.read_other {b : Addr} (hb : (Access.write, b) ≠ x) : t.mem.read b = s.admitOne.mem.read b := by
  cases h with
  | read a => simp
  | write a v =>
    have hba : b ≠ a := fun e => hb (by rw [e])
    rw [State.afterWrite_mem, Memory.read_write_other _ _ hba]

theorem State.Performs.admits_busBroken (n : Nat) : (t.admits n).busBroken = (s.admits (n + 1)).busBroken :=
  State.admits_busBroken_congr h.busBroken h.schedule n

theorem State.Performs.busUp {n : Nat} (hup : s.BusUp (n + 1)) : t.BusUp n :=
  .inr ((h.admits_busBroken n).trans (State.busUp_succ.mp hup))

/-- Where the access found the bus whole, the bus breaks one access sooner after it. -/
theorem State.Performs.breaksAt {n : Nat} (hb : s.BreaksAt (n + 1)) : t.BreaksAt n :=
  ⟨h.busUp hb.1, (h.admits_busBroken (n + 1)).trans hb.2⟩

end

/-! ### Uses of the bus, with the accesses they plan -/

/-- A use of the bus, begun in `s`, that plans some accesses: it makes them in order, working on registers alone between them,
and ends early where the next of them finds the bus broken. -/
inductive Bus.Follows {α : Type} : Bus α → State → List (Access × Addr) → Prop
  | ok {s t : State} (v : α) (h : s.RegistersOnly t) : Follows (.ok v t) s []
  | broken {s : State} (x : Access × Addr) (plan : List (Access × Addr)) (h : s.admitOne.busBroken = true) :
      Follows (.broken s.admitOne) s (x :: plan)
  | access {m : Bus α} {s t : State} {x : Access × Addr} {plan : List (Access × Addr)} (h : s.admitOne.busBroken = false)
      (hx : s.Performs x t) (hm : Follows m t plan) : Follows m s (x :: plan)
  | registers {m : Bus α} {s t : State} {plan : List (Access × Addr)} (h : s.RegistersOnly t) (hm : Follows m t plan) :
      Follows m s plan

section
variable {α β : Type} {s : State} {m : Bus α} {plan rest : List (Access × Addr)}

/-- What goes on after a use of the bus plans its accesses after those of that use. -/
theorem Bus.Follows.andThen {k : α → State → Bus β} (h : m.Follows s plan) (hk : ∀ v t, (k v t).Follows t rest) :
    (m.andThen k).Follows s (plan ++ rest) := by
  induction h with
  | ok v h => exact .registers h (hk v _)
  | broken x plan h => exact .broken x _ h
  | access h hx _ ih => exact .access h hx ih
  | registers h _ ih => exact .registers h ih

/-- What goes on on registers alone plans no access. -/
theorem Bus.Follows.andThen_registers {g : α → State → β} {f : α → State → State} (h : m.Follows s plan)
    (hf : ∀ v (t : State), t.RegistersOnly (f v t)) : (m.andThen fun v t => .ok (g v t) (f v t)).Follows s plan := by
  simpa using h.andThen (rest := []) fun v t => .ok (g v t) (hf v t)

theorem busRead_follows (s : State) (a : Addr) : (busRead a s).Follows s [(.read, a)] := by
  cases h : s.admitOne.busBroken with
  | true => rw [busRead_broken s a h]; exact .broken _ _ h
  | false => rw [busRead_ok s a h]; exact .access h (.read a) (.ok _ rfl)

theorem busWrite_follows (s : State) (a : Addr) (v : Byte) : (busWrite a v s).Follows s [(.write, a)] := by
  cases h : s.admitOne.busBroken with
  | true => rw [busWrite_broken s a v h]; exact .broken _ _ h
  | false => rw [busWrite_ok s a v h]; exact .access h (.write a v) (.ok _ rfl)

theorem busWrite16_follows (s : State) (a v : Addr) : (busWrite16 a v s).Follows s [(.write, a), (.write, a + 1)] :=
  (busWrite_follows s a _).andThen fun _ t => busWrite_follows t (a + 1) _

theorem push16_follows (s : State) (v : Addr) : (push16 v s).Follows s s.pushAccesses := by
  have e : s.sp - 1 - 1 = s.sp - 2 := by rw [BitVec.sub_sub]; rfl
  refine .registers (t := s.setSp (s.sp - 1)) rfl ?_
  unfold push16
  cases h : (s.setSp (s.sp - 1)).admitOne.busBroken with
  | true => rw [busWrite_broken _ _ _ h]; exact .broken _ _ h
  | false =>
    rw [busWrite_ok _ _ _ h, Bus.andThen_ok, State.afterWrite_sp, State.setSp_sp, e]
    exact .access h (.write _ _) (.registers (t := State.setSp _ (s.sp - 2)) rfl (busWrite_follows _ _ _))

theorem pop16_follows (s : State) : (pop16 s).Follows s s.popAccesses := by
  unfold pop16
  cases h : s.admitOne.busBroken with
  | true => rw [busRead_broken _ _ h]; exact .broken _ _ h
  | false =>
    rw [busRead_ok _ _ h]
    simp only [Bus.andThen_ok, State.afterRead_sp, State.setSp_sp]
    exact .access h (.read _) (.registers (t := (s.afterRead s.sp).setSp (s.sp + 1)) rfl
      ((busRead_follows _ _).andThen_registers fun _ _ => rfl))

theorem withMHL_follows (s : State) {k : Byte → State → State} (hk : ∀ v (t : State), t.RegistersOnly (k v t)) :
    (withMHL k s).Follows s [(.read, s.hl)] :=
  (busRead_follows s s.hl).andThen_registers hk

theorem modifyMHL_follows (s : State) (f : Byte → State → Byte) {k : Byte → State → State}
    (hk : ∀ v (t : State), t.RegistersOnly (k v t)) : (modifyMHL f k s).Follows s [(.read, s.hl), (.write, s.hl)] :=
  (busRead_follows s s.hl).andThen fun v t => (busWrite_follows t s.hl (f v t)).andThen_registers fun _ => hk v

theorem modifyMem_follows (s : State) (f : Byte → Flags → Result8) :
    (modifyMem f s).Follows s [(.read, s.hl), (.write, s.hl)] :=
  modifyMHL_follows s _ fun _ _ => rfl

theorem rewriteMem_follows (s : State) (f : Byte → Byte) :
    (rewriteMem f s).Follows s [(.read, s.hl), (.write, s.hl)] :=
  modifyMHL_follows s _ fun _ _ => rfl

theorem callBus_follows (s : State) (target : Addr) : (callBus target s).Follows s s.pushAccesses :=
  (push16_follows s s.pc).andThen_registers fun _ _ => rfl

theorem returnBus_follows (s : State) : (returnBus s).Follows s s.popAccesses :=
  (pop16_follows s).andThen_registers fun _ _ => rfl

/-- A conditional transfer plans its accesses when it is taken, and none when it is not (R139, R141). -/
theorem ifTaken_follows {b : Bool} {m : Bus Unit} (h : m.Follows s plan) :
    (if b then m else .ok () s).Follows s (if b then plan else []) := by
  cases b with
  | false => exact .ok () rfl
  | true => exact h

/-- The reads of `n` bytes from an address upward. -/
def readsFrom (a : Addr) : Nat → List (Access × Addr)
  | 0 => []
  | n + 1 => (.read, a) :: readsFrom (a + 1) n

@[simp] theorem length_readsFrom (a : Addr) (n : Nat) : (readsFrom a n).length = n := by
  induction n generalizing a with
  | zero => rfl
  | succ n ih => simp [readsFrom, ih]

theorem busReadBytes_follows (s : State) (a : Addr) (n : Nat) : (busReadBytes a n s).Follows s (readsFrom a n) := by
  induction n generalizing s a with
  | zero => exact .ok _ rfl
  | succ n ih => exact (busRead_follows s a).andThen fun _ t => (ih t (a + 1)).andThen_registers fun _ _ => rfl

/-! ### What follows of a use of the bus -/

/-- It ends where the bus breaks, the accesses before made (R53). -/
theorem Bus.Follows.brokenAfter (h : m.Follows s plan) {k : Nat} (hk : k < plan.length) (hb : s.BreaksAt k) :
    m.BrokenAfter s (plan.take k) := by
  induction h generalizing k with
  | ok => exact absurd hk k.not_lt_zero
  | broken x plan h =>
    cases k with
    | zero => exact ⟨_, rfl, by simp⟩
    | succ k => exact absurd h (by simp [State.BusUp.first hb.1])
  | access h hx _ ih =>
    cases k with
    | zero => exact absurd hb.first (by simp [h])
    | succ k =>
      obtain ⟨t, ht, hlog⟩ := ih (Nat.lt_of_succ_lt_succ hk) (hx.breaksAt hb)
      exact ⟨t, ht, by simp [hlog, hx.engineAccesses]⟩
  | registers h _ ih =>
    obtain ⟨t, ht, hlog⟩ := ih hk (h.breaksAt.mpr hb)
    exact ⟨t, ht, by rw [hlog, h.busLog]⟩

theorem Bus.Follows.broken_of_busDown (h : m.Follows s plan) (hd : s.BusDown plan.length) : ∃ t, m = .broken t := by
  obtain ⟨k, hk, hb⟩ := hd.exists_breaksAt
  obtain ⟨t, ht, _⟩ := h.brokenAfter hk hb
  exact ⟨t, ht⟩

/-- Where the bus is whole, a byte no planned access stores to is what the other agents alone leave there (R35, R43). -/
theorem Bus.Follows.mem_frame (h : m.Follows s plan) (hup : s.BusUp plan.length) {a : Addr} (ha : (Access.write, a) ∉ plan) :
    ∃ v t, m = .ok v t ∧ t.mem.read a = (s.admits plan.length).mem.read a := by
  induction h with
  | ok v h => exact ⟨v, _, rfl, by rw [h.mem]; rfl⟩
  | broken _ _ h => exact absurd h (by simp [hup.first])
  | access h hx _ ih =>
    obtain ⟨v, t, hm, ht⟩ := ih (hx.busUp hup) (List.not_mem_of_not_mem_cons ha)
    have hread := hx.read_other (List.ne_of_not_mem_cons ha)
    exact ⟨v, t, hm, ht.trans (State.admits_read_congr a hx.schedule hx.params hread _)⟩
  | registers h _ ih =>
    obtain ⟨v, t, hm, ht⟩ := ih (h.busUp.mpr hup) ha
    exact ⟨v, t, hm, ht.trans (State.admits_read_congr a h.schedule h.params (by rw [h.mem]) _)⟩

end

end Sys2Proof.Machine
end

section
/-! ## What an instruction and a step can do

An instruction ends in what its use of the bus ends in, or reports the opcode it is; so a step ends before its fetch, or the
engine works and then reports one of four outcomes. -/

namespace Sys2Proof.Machine

/-! ### Every operation -/

/-- How the meaning of `i`, run on `s`, ends, the accesses it plans being `plan`: with its use of the bus, or, off the bus, with
the report of an unwired or an undefined opcode. -/
inductive Result.Ends (i : Instr) (s : State) : Result → List (Access × Addr) → Prop
  | finish {m : Bus Unit} {plan : List (Access × Addr)} (h : m.Follows s plan) : Ends i s (finish i s m) plan
  | unimplemented {op : Byte} (h : op ∈ unwiredOpcodes) : Ends i s (.next (s.raiseUnimplemented op)) []
  | fatal {op : Byte} (h : op ∈ holeOpcodes) (a : Addr) : Ends i s (.next (s.raiseFatal op a)) []

section
variable {s t : State} {i : Instr}

theorem done_ends (h : s.RegistersOnly t) : Result.Ends i s (done t) [] := .finish (.ok () h)

theorem jumpIf_ends (cc : Cond) (target : Addr) : Result.Ends i s (jumpIf cc target s) [] := by
  unfold jumpIf
  split
  · exact done_ends rfl
  · exact done_ends s.registersOnly_refl

/-- The row of the CB byte ends as the instruction its sub-opcode names (R167). -/
theorem cbInstruction_ends (sub : Byte) : Result.Ends i s (cbInstruction i sub s) ((decodeCb sub).accesses s) := by
  unfold cbInstruction decodeCb
  generalize fieldX sub = x, operandOf (fieldZ sub) = o
  match x, o with
  | 0, .reg _ | 1, .reg _ | 2, .reg _ | _ + 3, .reg _ => exact done_ends rfl
  | 0, .mHL => exact .finish (modifyMem_follows s _)
  | 1, .mHL => exact .finish (withMHL_follows s fun _ _ => rfl)
  | 2, .mHL | _ + 3, .mHL => exact .finish (rewriteMem_follows s _)

/-- The rows of the sentinel carry the opcodes with no table entry (R62). -/
theorem opcode_rowIllegal_mem (h : Hole) : (rowIllegal h).opcode ∈ holeOpcodes := by cases h <;> decide

/-- Every operation ends with its use of the bus, or with its report, whatever the bus does. -/
theorem exec_instr_ends (op : Operation) (s : State) : Result.Ends op.instr s (exec op.instr s) (op.resolve.accesses s) := by
  rw [exec_instr]
  cases op with
  | ldMHLReg _ | ldMHLImm _ | ldAbsAcc _ | ldhAbsAcc _ | ldPortAcc => exact .finish (busWrite_follows s _ _)
  | ldAccAbs _ | ldhAccAbs _ | ldAccPort => exact .finish ((busRead_follows s _).andThen_registers fun _ _ => rfl)
  | ldRegMHL _ => exact .finish (withMHL_follows s fun _ _ => rfl)
  | ldAccInd p => exact .finish ((busRead_follows s _).andThen_registers fun _ _ => by cases p <;> rfl)
  | ldIndAcc p => exact .finish ((busWrite_follows s _ _).andThen_registers fun _ t => t.registersOnly_stepIndirect p _)
  | ldAbsSp _ => exact .finish (busWrite16_follows s _ _)
  | ldWideImm p _ | incWide p | decWide p => exact done_ends (s.registersOnly_setWide p _)
  | alu k src => cases src with
    | reg _ | imm _ => exact done_ends (s.registersOnly_aluOn k _)
    | mHL => exact .finish (withMHL_follows s fun v t => t.registersOnly_aluOn k v)
  | inc o | dec o | rot _ o => cases o with
    | reg _ => exact done_ends rfl
    | mHL => exact .finish (modifyMem_follows s _)
  | bit _ o => cases o with
    | reg _ => exact done_ends rfl
    | mHL => exact .finish (withMHL_follows s fun _ _ => rfl)
  | res _ o | set _ o => cases o with
    | reg _ => exact done_ends rfl
    | mHL => exact .finish (rewriteMem_follows s _)
  | push _ => exact .finish (push16_follows s _)
  | pop p => exact .finish ((pop16_follows s).andThen_registers fun v t => t.registersOnly_setPair p v)
  | jpIf cc _ | jrIf cc _ => exact jumpIf_ends cc _
  | call _ | rst _ => exact .finish (callBus_follows s _)
  | callIf _ target => exact .finish (ifTaken_follows (callBus_follows s target))
  | ret => exact .finish (returnBus_follows s)
  | retIf _ => exact .finish (ifTaken_follows (returnBus_follows s))
  | prefixCb sub => exact cbInstruction_ends sub
  | halt | stop _ | di | ei | reti => exact .unimplemented (by decide)
  | illegal h => exact .fatal (opcode_rowIllegal_mem h) _
  | nop | ldRegReg _ _ | ldRegImm _ _ | ldSpHl | ldHlSp _ | addHl _ | addSp _ | accRot _ | daa | cpl | scf | ccf | jp _
  | jpHl | jr _ => exact done_ends rfl

end

/-! ### The engine at work -/

/-- One thing that happens while the engine works: a point at which the other agents act, an access, or work on registers. -/
inductive State.Move (s : State) : State → Prop
  | agents : s.Move s.admitOne
  | read (a : Addr) : s.Move (s.afterAgentRead .engine a)
  | write (a : Addr) (v : Byte) : s.Move (s.afterAgentWrite .engine a v)
  | registers {t : State} (h : s.RegistersOnly t) : s.Move t

/-- The engine can come from `s` to `t` at work, before it reports an outcome. -/
def State.Works : State → State → Prop := Relation.ReflTransGen State.Move

section
variable {s t u : State}

/-- What each move keeps, the engine at work keeps. -/
theorem State.Works.keeps {P : State → Prop} (hmove : ∀ s t, s.Move t → P s → P t) (h : s.Works t) (hs : P s) : P t := by
  induction h with
  | refl => exact hs
  | tail _ h ih => exact hmove _ _ h ih

theorem State.works_admitOne (s : State) : s.Works s.admitOne := .single .agents

theorem State.Performs.works {x : Access × Addr} (h : s.Performs x t) : s.Works t := by
  cases h with
  | read a => exact s.works_admitOne.tail (.read a)
  | write a v => exact s.works_admitOne.tail (.write a v)

/-- The states a use of the bus begun in `s` can end in: one the engine works its way to, and there is no access that finds the
bus broken but on a broken bus. -/
def Bus.WorksFrom {α : Type} (s : State) : Bus α → Prop
  | .ok _ t => s.Works t
  | .broken t => s.Works t ∧ t.busBroken = true

theorem Bus.WorksFrom.head {α : Type} {m : Bus α} (h : s.Works t) (hm : m.WorksFrom t) : m.WorksFrom s := by
  cases m with
  | ok _ u => exact Relation.ReflTransGen.trans h hm
  | broken u => exact ⟨Relation.ReflTransGen.trans h hm.1, hm.2⟩

theorem Bus.Follows.worksFrom {α : Type} {m : Bus α} {plan : List (Access × Addr)} (h : m.Follows s plan) :
    m.WorksFrom s := by
  induction h with
  | ok _ h => exact .single (.registers h)
  | @broken s _ _ h => exact ⟨s.works_admitOne, h⟩
  | access _ hx _ ih => exact ih.head hx.works
  | registers h _ ih => exact ih.head (.single (.registers h))

/-! ### The outcomes of a step that fetches -/

/-- The engine, having worked its way to `s`, reports an outcome in `t` (R168 to R171). -/
inductive State.Reports (s : State) : State → Prop
  | ok : s.Reports (s.returning .ok)
  | unimplemented {op : Byte} (h : op ∈ unwiredOpcodes) : s.Reports (s.raiseUnimplemented op)
  | fatal {op : Byte} (h : op ∈ holeOpcodes) (a : Addr) : s.Reports (s.raiseFatal op a)
  | resourceFault (h : s.busBroken = true) (a : Addr) (op : Option Byte) : s.Reports (s.raiseResourceFault a op)

theorem Result.Ends.reports {i : Instr} {r : Result} {plan : List (Access × Addr)} (h : r.Ends i s plan) :
    ∃ u t, s.Works u ∧ u.Reports t ∧ r = .next t := by
  cases h with
  | @finish m _ h =>
    have hw := h.worksFrom
    cases m with
    | ok _ u => exact ⟨u, _, hw, .ok, rfl⟩
    | broken u => exact ⟨u, _, hw.1, .resourceFault hw.2 _ _, rfl⟩
  | unimplemented h => exact ⟨s, _, .refl, .unimplemented h, rfl⟩
  | fatal h a => exact ⟨s, _, .refl, .fatal h a, rfl⟩

/-! ### The fetch and the start of a step, branch by branch (R69 to R74) -/

theorem fetch_broken_first (h : busRead s.pc s = .broken t) : fetch s = .broken none t := by
  simp only [fetch, h]

theorem fetch_broken_later {op : Byte} (h : busRead s.pc s = .ok op t)
    (hb : busReadBytes (s.pc + 1) (extraBytes s.params.stopLen op) t = .broken u) : fetch s = .broken (some op) u := by
  simp only [fetch, h, hb]

theorem fetch_ok {op : Byte} {bs : List Byte} (h : busRead s.pc s = .ok op t)
    (hb : busReadBytes (s.pc + 1) (extraBytes s.params.stopLen op) t = .ok bs u) :
    fetch s = .ok (describe s.params.stopLen op (bs.getD 0 0) (bs.getD 1 0)) u := by
  simp only [fetch, h, hb]

/-- What a fetch can end in (R71 to R73): the descriptor of an operation, or a broken bus, and a state the engine worked its way
to. -/
inductive Fetched.WorksFrom (s : State) : Fetched → Prop
  | ok (sl : StopLen) (o b1 b2 : Byte) {t : State} (h : s.Works t) : WorksFrom s (.ok (describe sl o b1 b2) t)
  | broken (op : Option Byte) {t : State} (h : s.Works t) (hb : t.busBroken = true) : WorksFrom s (.broken op t)

theorem fetch_worksFrom (s : State) : (fetch s).WorksFrom s := by
  have hread := (busRead_follows s s.pc).worksFrom
  cases h : busRead s.pc s with
  | broken t =>
    rw [h] at hread
    rw [fetch_broken_first h]
    exact .broken none hread.1 hread.2
  | ok op t =>
    rw [h] at hread
    have hbytes := (busReadBytes_follows t (s.pc + 1) (extraBytes s.params.stopLen op)).worksFrom.head hread
    cases h' : busReadBytes (s.pc + 1) (extraBytes s.params.stopLen op) t with
    | broken u =>
      rw [h'] at hbytes
      rw [fetch_broken_later h h']
      exact .broken _ hbytes.1 hbytes.2
    | ok bs u =>
      rw [h'] at hbytes
      rw [fetch_ok h h']
      exact .ok _ _ _ _ hbytes

theorem step_of_faulted {o : Terminal} (h : s.runState = .faulted o) :
    step s = .next (s.admitOne.returning (.faulted o)) := by
  simp [step, beginStep, h]

theorem step_of_stopRequested (h : s.runState = .running) (hs : s.admitOne.stopRequested = true) :
    step s = .next (s.admitOne.returning .stopped) := by
  simp [step, beginStep, h, hs]

theorem step_of_fetch_broken {op : Option Byte} (h : s.runState = .running) (hs : s.admitOne.stopRequested = false)
    (hf : fetch s.admitOne.markStarted = .broken op t) : step s = .next (t.raiseResourceFault s.pc op) := by
  simp [step, beginStep, beginInstruction, h, hs, hf]

theorem step_of_fetch_ok {d : Descriptor} (h : s.runState = .running) (hs : s.admitOne.stopRequested = false)
    (hf : fetch s.admitOne.markStarted = .ok d t) : step s = exec d.instr (t.advance d) := by
  simp [step, beginStep, beginInstruction, h, hs, hf]

/-- A step that fetches works from the started engine and then reports an outcome. -/
theorem step_reports (h : s.runState = .running) (hs : s.admitOne.stopRequested = false) :
    ∃ u t, s.admitOne.markStarted.Works u ∧ u.Reports t ∧ step s = .next t := by
  have hfetch := fetch_worksFrom s.admitOne.markStarted
  generalize hf : fetch s.admitOne.markStarted = f at hfetch
  cases hfetch with
  | broken op hw hb => exact ⟨_, _, hw, .resourceFault hb s.pc op, step_of_fetch_broken h hs hf⟩
  | @ok sl o b1 b2 t hw =>
    obtain ⟨u, v, hu, hv, he⟩ :=
      (exec_instr_ends (decodeOperation sl o b1 b2) (t.advance (describe sl o b1 b2))).reports
    exact ⟨u, v, (hw.tail (.registers (t := t.advance _) rfl)).trans hu, hv, (step_of_fetch_ok h hs hf).trans he⟩

/-- Everything a step can do (R68 to R75): return the outcome of a Faulted engine, find the stop signal, or work and report. -/
theorem step_cases (h : step s = .next t) :
    (∃ o, s.runState = .faulted o ∧ t = s.admitOne.returning (.faulted o)) ∨
    (s.runState = .running ∧ t = s.admitOne.returning .stopped) ∨
    (s.runState = .running ∧ ∃ u, s.admitOne.markStarted.Works u ∧ u.Reports t) := by
  cases hr : s.runState with
  | faulted o => exact .inl ⟨o, rfl, (Host.Outcome.next.inj ((step_of_faulted hr).symm.trans h)).symm⟩
  | running =>
    cases hs : s.admitOne.stopRequested with
    | true => exact .inr (.inl ⟨rfl, (Host.Outcome.next.inj ((step_of_stopRequested hr hs).symm.trans h)).symm⟩)
    | false =>
      obtain ⟨u, v, hu, hv, he⟩ := step_reports hr hs
      obtain rfl : v = t := Host.Outcome.next.inj (he.symm.trans h)
      exact .inr (.inr ⟨rfl, u, hu, hv⟩)

end

end Sys2Proof.Machine
end

section
/-! ## The bus's total order, the storage, and the invariant of a step -/

namespace Sys2Proof.Machine

/-! ### Coherence (R35, R48) -/

/-- The storage holds the latest writes of the record, and each read in the record got the latest write before it. -/
structure State.HoldsLatest (base : Memory) (s : State) : Prop where
  storage (a : Addr) : s.mem.read a = latest base s.busLog a
  reads : ReadsLatest base s.busLog

theorem State.coherent_iff {base : Memory} {s : State} : s.Coherent base ↔ s.ResourceFaulted ∨ s.HoldsLatest base :=
  or_congr_right ⟨fun h => ⟨h.1, h.2⟩, fun h => ⟨h.storage, h.reads⟩⟩

section
variable {base : Memory} {s t : State}

/-- Coherence is a matter of the storage and the record alone. -/
theorem State.HoldsLatest.congr (h : s.HoldsLatest base) (hm : t.mem = s.mem) (hl : t.busLog = s.busLog) :
    t.HoldsLatest base :=
  ⟨by rw [hm, hl]; exact h.storage, by rw [hl]; exact h.reads⟩

theorem State.HoldsLatest.afterAgentRead (h : s.HoldsLatest base) (g : Agent) (a : Addr) :
    (s.afterAgentRead g a).HoldsLatest base :=
  ⟨fun b => by simp [latest, h.storage], fun _ => h.storage a, h.reads⟩

theorem State.HoldsLatest.afterAgentWrite (h : s.HoldsLatest base) (g : Agent) (a : Addr) (v : Byte) :
    (s.afterAgentWrite g a v).HoldsLatest base :=
  ⟨fun b => by simp [latest, Memory.read_write, h.storage, eq_comm], nofun, h.reads⟩

theorem State.HoldsLatest.applyExt (h : s.HoldsLatest base) (e : ExtEvent) : (s.applyExt e).HoldsLatest base := by
  cases e with
  | rendererRead a | hostRead a => exact h.afterAgentRead _ a
  | hostWrite a v => exact h.afterAgentWrite .host a v
  | rendererWrite a v =>
    simp only [State.applyExt]
    split
    · exact h.afterAgentWrite .renderer a v
    · exact h
  | requestStop | clearStop | breakBus => exact h.congr rfl rfl

theorem State.HoldsLatest.applyBatch (h : s.HoldsLatest base) (l : List ExtEvent) : (s.applyBatch l).HoldsLatest base := by
  induction l generalizing s with
  | nil => exact h
  | cons e rest ih => exact ih (h.applyExt e)

theorem State.HoldsLatest.admitOne (h : s.HoldsLatest base) : s.admitOne.HoldsLatest base := by
  unfold State.admitOne
  cases s.schedule with
  | nil => exact h
  | cons batch rest => exact (h.congr (t := { s with schedule := rest }) rfl rfl).applyBatch batch

theorem State.Move.holdsLatest (hm : s.Move t) (h : s.HoldsLatest base) : t.HoldsLatest base := by
  cases hm with
  | agents => exact h.admitOne
  | read a => exact h.afterAgentRead .engine a
  | write a v => exact h.afterAgentWrite .engine a v
  | registers hr => exact h.congr hr.mem hr.busLog

/-- Every outcome but a ResourceFault leaves the bus as it is (R171). -/
theorem State.Reports.coherent (hr : s.Reports t) (h : s.HoldsLatest base) : t.Coherent base := by
  rw [State.coherent_iff]
  cases hr with
  | ok | unimplemented _ | fatal _ _ => exact .inr (h.congr rfl rfl)
  | resourceFault _ a op => exact .inl ⟨a, op, rfl⟩

/-- A point at which the other agents act keeps the bus coherent. -/
theorem State.Coherent.admitOne (h : s.Coherent base) : s.admitOne.Coherent base := by
  rw [State.coherent_iff] at h ⊢
  refine h.imp (fun ⟨a, op, hf⟩ => ⟨a, op, ?_⟩) State.HoldsLatest.admitOne
  rw [State.admit_runState, hf]

/-- What a step returns is no part of the bus. -/
theorem State.Coherent.returning (h : s.Coherent base) (o : StepOutcome) : (s.returning o).Coherent base := h

theorem State.Coherent.holdsLatest_of_running (h : s.Coherent base) (hr : s.runState = .running) : s.HoldsLatest base := by
  refine (State.coherent_iff.mp h).resolve_left ?_
  rintro ⟨a, op, hf⟩
  exact RunState.noConfusion (hr.symm.trans hf)

end

/-! ### The invariant (R34, R70, R168, R184) -/

/-- What holds of the engine while a step that fetched is at work. -/
structure State.AtWork (s : State) : Prop where
  memory : s.mem.wf = true
  running : s.runState = .running
  started : s.started = true

section
variable {s t : State}

theorem State.Move.atWork (hm : s.Move t) (h : s.AtWork) : t.AtWork := by
  obtain ⟨hmem, hrun, hstarted⟩ := h
  cases hm with
  | agents => exact ⟨s.admit_wf hmem, by simpa, by simpa⟩
  | read a => exact ⟨hmem, hrun, hstarted⟩
  | write a v => exact ⟨Memory.wf_write hmem a v, hrun, hstarted⟩
  | registers hr => exact ⟨by rwa [hr.mem], by rwa [hr.runState], by rwa [hr.started]⟩

/-- An outcome that is no terminal one leaves the engine Running. -/
theorem State.AtWork.inv_returning (h : s.AtWork) {o : StepOutcome} (ho : ∀ x, o ≠ .faulted x)
    (hu : ∀ op, o = .unimplemented op → op ∈ unwiredOpcodes) : (s.returning o).Inv where
  memory := h.memory
  reported x := by simp [h.running, ho x]
  resource a op := by simp [h.running]
  fatal op a := by simp [h.running]
  unwired op hop := hu op (Option.some.inj hop)
  construction hs := by simp [h.started] at hs
  startedFirst x _ := h.started

/-- A terminal outcome is the engine's run state and what the step returns alike. -/
theorem State.inv_raiseTerminal {x : Terminal} (hmem : s.mem.wf = true) (hstarted : s.started = true)
    (hresource : ∀ a op, x = .resourceFault a op → s.busBroken = true)
    (hfatal : ∀ op a, x = .fatal op a → op ∈ holeOpcodes) :
    (s.raiseTerminal x).Inv where
  memory := hmem
  reported y := by simp
  resource a op hf := hresource a op (RunState.faulted.inj hf)
  fatal op a hf := hfatal op a (RunState.faulted.inj hf)
  unwired op hop := by simp at hop
  construction hs := by simp [hstarted] at hs
  startedFirst y _ := hstarted

/-- Each outcome has its own causes (R168 to R171). -/
theorem State.Reports.inv (hr : s.Reports t) (h : s.AtWork) : t.Inv := by
  cases hr with
  | ok => exact h.inv_returning nofun nofun
  | unimplemented hop => exact h.inv_returning nofun fun _ e => StepOutcome.unimplemented.inj e ▸ hop
  | fatal hop a =>
    exact State.inv_raiseTerminal h.memory h.started nofun fun _ _ e => (Terminal.fatal.inj e).1 ▸ hop
  | resourceFault hb a op =>
    exact State.inv_raiseTerminal (s := s.scrambled) (Memory.wf_ofCells _) h.started (fun _ _ _ => hb) nofun

/-- A step that ends before its fetch with an outcome that agrees with the run state keeps the invariant. -/
theorem State.Inv.admit_returning (h : s.Inv) {o : StepOutcome} (ho : ∀ x, s.runState = .faulted x ↔ o = .faulted x)
    (hu : ∀ op, o ≠ .unimplemented op) : (s.admitOne.returning o).Inv where
  memory := s.admit_wf h.memory
  reported x := by simp [ho]
  resource a op hf := State.admit_broken (h.resource a op (by simpa using hf))
  fatal op a hf := h.fatal op a (by simpa using hf)
  unwired op hop := absurd (Option.some.inj hop) (hu op)
  construction hs := by simpa using h.construction (by simpa using hs)
  startedFirst x hf := by simpa using h.startedFirst x (by simpa using hf)

/-- The bus's condition is lost by no move of the engine (R53). -/
theorem State.Move.broken (hm : s.Move t) (h : s.busBroken = true) : t.busBroken = true := by
  cases hm with
  | agents => exact State.admit_broken h
  | read _ | write _ _ => exact h
  | registers hr => rwa [hr.busBroken]

theorem State.Reports.busBroken (hr : s.Reports t) : t.busBroken = s.busBroken := by cases hr <;> rfl

/-- No step clears a broken bus (R53). -/
theorem step_keeps_broken (h : step s = .next t) (hb : s.busBroken = true) : t.busBroken = true := by
  have hadmit := State.admit_broken hb
  rcases step_cases h with ⟨o, _, rfl⟩ | ⟨_, rfl⟩ | ⟨_, u, hu, hreport⟩
  · exact hadmit
  · exact hadmit
  · rw [hreport.busBroken]
    exact hu.keeps (fun _ _ => State.Move.broken) hadmit

end

/-! ### The obligations -/

/-- Settles O58: a step ends before its fetch, or it works from a started, Running engine and reports an outcome. -/
theorem everyStepKeepsTheInvariant : Obligations.EveryStepKeepsTheInvariant := by
  intro s t h hstep
  rcases step_cases hstep with ⟨o, hfaulted, rfl⟩ | ⟨hrun, rfl⟩ | ⟨hrun, u, hu, hreport⟩
  · exact h.admit_returning (by simp [hfaulted]) (by simp)
  · exact h.admit_returning (by simp [hrun]) (by simp)
  · have hstart : s.admitOne.markStarted.AtWork := ⟨s.admit_wf h.memory, by simpa, rfl⟩
    exact hreport.inv (hu.keeps (fun _ _ => State.Move.atWork) hstart)

/-- Settles O60: each move of the engine and each batch of the other agents keeps the bus coherent. -/
theorem everyStepKeepsTheBusCoherent : Obligations.EveryStepKeepsTheBusCoherent := by
  intro base s t h hstep
  rcases step_cases hstep with ⟨o, _, rfl⟩ | ⟨_, rfl⟩ | ⟨hrun, u, hu, hreport⟩
  · exact h.admitOne.returning _
  · exact h.admitOne.returning _
  · have hstart : s.admitOne.markStarted.HoldsLatest base := (h.holdsLatest_of_running hrun).admitOne.congr rfl rfl
    exact hreport.coherent (hu.keeps (fun _ _ => State.Move.holdsLatest) hstart)

/-- Settles O59: after construction the record is empty, so the latest write to a byte is its construction content. -/
theorem busIsCoherentAfterConstruction : Obligations.BusIsCoherentAfterConstruction := by
  intro c s h
  unfold construct at h
  split at h
  · obtain rfl := Option.some.inj h
    exact .inr ⟨fun _ => rfl, trivial⟩
  · exact nomatch h

end Sys2Proof.Machine
end

section
/-! ## What is read off the plans, the storage and the other agents, statement by statement -/

namespace Sys2Proof.Machine

/-! ### The storage (R34 to R36) -/

/-- A cell of a canonical list holds no unlisted value, and nothing before it is listed. -/
theorem Memory.risesFrom_cons {k lo : Nat} {v : Byte} {rest : Memory} :
    Memory.risesFrom ((k, v) :: rest) lo = true ↔
      lo ≤ k ∧ k < 0x10000 ∧ v ≠ Memory.unlisted ∧ rest.risesFrom (k + 1) = true := by
  simp [Memory.risesFrom, and_assoc]

theorem Memory.find_head (k : Nat) (v : Byte) (rest : Memory) : Memory.find ((k, v) :: rest) k = v := if_pos rfl

/-- Two canonical lists that read alike: no cell of one lies before every cell of the other. -/
theorem Memory.head_le_of_find_eq {k k' lo lo' : Nat} {v v' : Byte} {rest rest' : Memory}
    (h : Memory.risesFrom ((k, v) :: rest) lo = true) (h' : Memory.risesFrom ((k', v') :: rest') lo' = true)
    (heq : ∀ a < 0x10000, Memory.find ((k, v) :: rest) a = Memory.find ((k', v') :: rest') a) : k' ≤ k := by
  obtain ⟨-, hk, hv, -⟩ := Memory.risesFrom_cons.mp h
  obtain ⟨-, hk', hv', hrest'⟩ := Memory.risesFrom_cons.mp h'
  by_contra hlt
  have hfind : Memory.find ((k', v') :: rest') k = Memory.unlisted :=
    Memory.find_of_risesFrom (lo := k') (Memory.risesFrom_cons.mpr ⟨le_rfl, hk', hv', hrest'⟩) (Nat.lt_of_not_le hlt)
  exact hv ((Memory.find_head k v rest).symm.trans ((heq k hk).trans hfind))

/-- Canonical lists that read alike are the same list. -/
theorem Memory.eq_of_find_eq {m m' : Memory} {lo lo' : Nat} (h : m.risesFrom lo = true) (h' : m'.risesFrom lo' = true)
    (heq : ∀ a < 0x10000, m.find a = m'.find a) : m = m' := by
  induction m generalizing m' lo lo' with
  | nil =>
    cases m' with
    | nil => rfl
    | cons cell' rest' =>
      obtain ⟨-, hk', hv', -⟩ := Memory.risesFrom_cons.mp h'
      exact absurd ((heq _ hk').trans (Memory.find_head ..)).symm hv'
  | cons cell rest ih =>
    obtain ⟨k, v⟩ := cell
    obtain ⟨-, hk, hv, hrest⟩ := Memory.risesFrom_cons.mp h
    cases m' with
    | nil => exact absurd ((Memory.find_head k v rest).symm.trans (heq k hk)) hv
    | cons cell' rest' =>
      obtain ⟨k', v'⟩ := cell'
      obtain ⟨-, -, -, hrest'⟩ := Memory.risesFrom_cons.mp h'
      obtain rfl : k = k' := Nat.le_antisymm (Memory.head_le_of_find_eq h' h fun a ha => (heq a ha).symm)
        (Memory.head_le_of_find_eq h h' heq)
      obtain rfl : v = v' := (Memory.find_head k v rest).symm.trans ((heq k hk).trans (Memory.find_head k v' rest'))
      rw [ih hrest hrest' fun a ha => ?_]
      by_cases hak : k = a
      · rw [Memory.find_of_risesFrom hrest (by omega), Memory.find_of_risesFrom hrest' (by omega)]
      · simpa [Memory.find, hak] using heq a ha

theorem Memory.eq_of_read_eq {m m' : Memory} (h : m.wf = true) (h' : m'.wf = true) (heq : ∀ a, m.read a = m'.read a) :
    m = m' := by
  refine Memory.eq_of_find_eq h h' fun a ha => ?_
  have hread := heq (BitVec.ofNat 16 a)
  rwa [Memory.read, Memory.read, BitVec.toNat_ofNat, Nat.mod_eq_of_lt ha] at hread

/-! ### The other agents (R45) -/

/-- The high byte of an address is 0xFF exactly in the page 0xFF00-0xFFFF. -/
theorem highByte_eq_FF_iff (a : Addr) : highByte a = 0xFF ↔ 0xFF00 ≤ a.toNat := by
  have := a.isLt
  rw [← BitVec.toNat_inj, highByte, BitVec.extractLsb'_toNat, Nat.shiftRight_eq_div_pow,
    show (0xFF : Byte).toNat = 255 from rfl]
  omega

theorem lowByte_toNat (a : Addr) : (lowByte a).toNat = a.toNat % 256 := by
  simp [lowByte, BitVec.extractLsb'_toNat]

/-- EXT_WRITE_SET in numbers (R45). -/
theorem rendererMayWrite_iff (p : Params) (a : Addr) : rendererMayWrite p a = true ↔
    0xFF00 ≤ a.toNat ∧ ∃ r ∈ p.extWriteSet, r.1.toNat ≤ a.toNat % 256 ∧ a.toNat % 256 ≤ r.2.toNat := by
  simp only [rendererMayWrite, Bool.and_eq_true, beq_iff_eq, highByte_eq_FF_iff, List.any_eq_true, decide_eq_true_eq,
    BitVec.le_def, lowByte_toNat]

theorem State.applyBatch_eq_foldl (s : State) (l : List ExtEvent) : s.applyBatch l = l.foldl State.applyExt s := by
  induction l generalizing s with
  | nil => rfl
  | cons e rest ih => exact ih (s.applyExt e)

/-- An event of the renderer, a poll or a write. -/
def ExtEvent.IsRenderer (e : ExtEvent) : Prop := (∃ a, e = .rendererRead a) ∨ (∃ a v, e = .rendererWrite a v)

theorem State.applyExt_rendererWrite_of_may {s : State} {a : Addr} (h : rendererMayWrite s.params a = true) (v : Byte) :
    s.applyExt (.rendererWrite a v) = s.afterAgentWrite .renderer a v := if_pos h

theorem State.applyExt_rendererWrite_of_not {s : State} {a : Addr} (h : rendererMayWrite s.params a = false) (v : Byte) :
    s.applyExt (.rendererWrite a v) = s := if_neg (by simp [h])

theorem State.applyExt_renderer_read {s : State} {e : ExtEvent} (he : e.IsRenderer) {b : Addr}
    (hb : rendererMayWrite s.params b = false) : (s.applyExt e).mem.read b = s.mem.read b := by
  obtain ⟨a, rfl⟩ | ⟨a, v, rfl⟩ := he
  · rfl
  · cases ha : rendererMayWrite s.params a with
    | false => rw [State.applyExt_rendererWrite_of_not ha]
    | true =>
      have hba : b ≠ a := fun e => Bool.false_ne_true (hb.symm.trans (e ▸ ha))
      rw [State.applyExt_rendererWrite_of_may ha, State.afterAgentWrite_mem, Memory.read_write_other _ _ hba]

/-- No batch of the renderer changes a byte outside its set (R45). -/
theorem State.applyBatch_renderer_read {s : State} {l : List ExtEvent} (hl : ∀ e ∈ l, e.IsRenderer) {b : Addr}
    (hb : rendererMayWrite s.params b = false) : (s.applyBatch l).mem.read b = s.mem.read b := by
  induction l generalizing s with
  | nil => rfl
  | cons e rest ih =>
    obtain ⟨he, hrest⟩ := List.forall_mem_cons.mp hl
    exact (ih hrest (by simpa using hb)).trans (State.applyExt_renderer_read he hb)

theorem State.admit_cons {s : State} {l : List ExtEvent} {rest : List (List ExtEvent)} (h : s.schedule = l :: rest) :
    s.admitOne = { s with schedule := rest }.applyBatch l := by
  simp [State.admitOne, h]

/-! ### A push and a pop with no other agent acting (R39, R127 to R131) -/

theorem Flags.toByte_ofByte (b : Byte) : (Flags.ofByte b).toByte = b &&& 0xF0 := by
  revert b
  decide

/-- F without its low nibble (R22), on the pair it is the high half of. -/
theorem joinBytes_and_high (hi lo : Byte) : joinBytes (hi &&& 0xF0) lo = joinBytes hi lo &&& 0xF0FF :=
  calc joinBytes (hi &&& 0xF0) lo
    _ = (hi &&& 0xF0) ++ (lo &&& 0xFF) := by rw [show (0xFF : Byte) = BitVec.allOnes 8 from rfl, BitVec.and_allOnes]; rfl
    _ = (hi ++ lo) &&& ((0xF0 : Byte) ++ (0xFF : Byte)) := BitVec.and_append.symm
    _ = joinBytes hi lo &&& 0xF0FF := rfl

/-- What a pair holds after it is written: F keeps its upper nibble alone (R21, R22). -/
theorem State.pair_setPair (s : State) (q : Pair) (v : Addr) :
    (s.setPair q v).pair q = if q = .af then v &&& 0xF0FF else v := by
  cases q with
  | bc => exact s.pair_setPair_bc v
  | de => exact s.pair_setPair_de v
  | hl => exact s.pair_setPair_hl v
  | af =>
    show joinBytes (Flags.ofByte (highByte v)).toByte (lowByte v) = v &&& 0xF0FF
    rw [Flags.toByte_ofByte, joinBytes_and_high, joinBytes_high_low]

section
variable {s t : State}

/-- With no other agent about to act, no point at which one can changes the state. -/
theorem State.Quiet.admitOne (h : s.Quiet) : s.admitOne = s := s.admit_nil h.1

theorem State.Quiet.admits_busBroken (h : s.Quiet) (n : Nat) : (s.admits n).busBroken = false := by
  rw [s.admits_nil h.1]
  exact h.2

theorem State.Quiet.valueAt (h : s.Quiet) (a : Addr) : s.valueAt a = s.mem.read a := by rw [State.valueAt, h.admitOne]

theorem State.Quiet.afterRead_mem (h : s.Quiet) (a : Addr) : (s.afterRead a).mem = s.mem := by simp [h.admitOne]

theorem State.Quiet.afterWrite_mem (h : s.Quiet) (a : Addr) (v : Byte) : (s.afterWrite a v).mem = s.mem.write a v := by
  simp [h.admitOne]

theorem State.Quiet.afterRead (h : s.Quiet) (a : Addr) : (s.afterRead a).Quiet :=
  ⟨by simp [h.1], by simp [h.admitOne, h.2]⟩

theorem State.Quiet.afterWrite (h : s.Quiet) (a : Addr) (v : Byte) : (s.afterWrite a v).Quiet :=
  ⟨by simp [h.1], by simp [h.admitOne, h.2]⟩

/-- What a push of `v` in `s` leaves: its two bytes on the stack, and SP two below (R39, R127). -/
structure State.Pushed (s : State) (v : Addr) (t : State) : Prop where
  quiet : t.Quiet
  sp : t.sp = s.sp - 2
  low : t.mem.read t.sp = lowByte v
  high : t.mem.read (t.sp + 1) = highByte v

theorem push16_pushed (h : s.Quiet) (v : Addr) : ∃ t, push16 v s = .ok () t ∧ s.Pushed v t := by
  have hfirst := h.afterWrite (s.sp - 1) (highByte v)
  have hsecond := hfirst.afterWrite (s.sp - 2) (lowByte v)
  refine ⟨_, push16_ok s v (h.admits_busBroken 2), ⟨hsecond.1, hsecond.2⟩, rfl, ?_, ?_⟩
  · simp only [State.setSp_mem, State.setSp_sp, hfirst.afterWrite_mem, Memory.read_write_same]
  · have hne : s.sp - 2 + 1 ≠ s.sp - 2 := by bv_omega
    simp only [State.setSp_mem, State.setSp_sp, hfirst.afterWrite_mem, h.afterWrite_mem, Memory.read_write_other _ _ hne]
    rw [show s.sp - 2 + 1 = s.sp - 1 by bv_omega, Memory.read_write_same]

/-- A pop gives back what was pushed, and SP with it (R39, R128). -/
theorem pop16_of_pushed {v : Addr} (h : s.Pushed v t) : ∃ u, pop16 t = .ok v u ∧ u.sp = s.sp := by
  refine ⟨((t.afterRead t.sp).afterRead (t.sp + 1)).setSp (t.sp + 2), ?_, ?_⟩
  · rw [pop16_ok t (h.quiet.admits_busBroken 2), (h.quiet.afterRead _).valueAt, h.quiet.valueAt, h.quiet.afterRead_mem, h.low,
      h.high, joinBytes_high_low]
  · rw [State.setSp_sp, h.sp]
    bv_omega

theorem exec_rowPush_pushed (h : s.Quiet) (p : Pair) : ∃ t, exec (rowPush p) s = .next t ∧ s.Pushed (s.pair p) t := by
  obtain ⟨t, hpush, hq, hsp, hlow, hhigh⟩ := push16_pushed h (s.pair p)
  refine ⟨t.returning .ok, (exec_instr (.push p) s).trans ?_, hq, hsp, hlow, hhigh⟩
  rw [runOperation, pushPair, hpush, finish_ok]

theorem exec_rowPop_of_pushed {v : Addr} (h : s.Pushed v t) (q : Pair) :
    ∃ u, exec (rowPop q) t = .next u ∧ u.pair q = (if q = .af then v &&& 0xF0FF else v) ∧ u.sp = s.sp := by
  obtain ⟨u, hpop, hsp⟩ := pop16_of_pushed h
  refine ⟨(u.setPair q v).returning .ok, (exec_instr (.pop q) t).trans ?_, ?_, ?_⟩
  · rw [runOperation, popPair, hpop, Bus.andThen_ok, finish_ok]
  · exact u.pair_setPair q v
  · rw [State.returning_sp, State.setPair_sp, hsp]

end

/-! ### The fetch on a broken bus (R53, R171) -/

/-- That the engine has started is nothing to the bus. -/
theorem State.markStarted_admits_busBroken (s : State) (n : Nat) :
    (s.markStarted.admits n).busBroken = (s.admits n).busBroken :=
  State.admits_busBroken_congr (s := s.markStarted) (t := s) rfl rfl n

theorem fetch_of_broken {s : State} (h : s.admitOne.busBroken = true) : ∃ t, fetch s = .broken none t :=
  ⟨_, fetch_broken_first (busRead_broken s s.pc h)⟩

/-- With the bus whole at the opcode read and broken at a later byte, the fetch ends with the opcode read. -/
theorem fetch_of_busDown {s : State} (h : s.admitOne.busBroken = false)
    (hd : s.admitOne.BusDown (extraBytes s.params.stopLen (s.valueAt s.pc))) :
    ∃ t, fetch s = .broken (some (s.valueAt s.pc)) t := by
  have hfollows := busReadBytes_follows (s.afterRead s.pc) (s.pc + 1) (extraBytes s.params.stopLen (s.valueAt s.pc))
  obtain ⟨t, ht⟩ := hfollows.broken_of_busDown (by
    rw [length_readsFrom]
    exact ⟨hd.1, (State.admits_busBroken_congr (by simp) (by simp) _).trans hd.2⟩)
  exact ⟨t, fetch_broken_later (busRead_ok s s.pc h) ht⟩

/-! ### The accesses of an operation -/

theorem mem_stores_iff {op : Operation} {s : State} {a : Addr} : a ∈ op.stores s ↔ (Access.write, a) ∈ op.accesses s := by
  simp [Operation.stores]

/-- Where the bus is whole at every planned access, a meaning leaves a byte it does not store to as the other agents do. -/
theorem Result.Ends.mem_frame {i : Instr} {s t : State} {plan : List (Access × Addr)}
    (h : Result.Ends i s (.next t) plan) (hup : s.BusUp plan.length) {a : Addr} (ha : (Access.write, a) ∉ plan) :
    t.mem.read a = (s.admits plan.length).mem.read a := by
  generalize hr : (Host.Outcome.next t : Result) = r at h
  cases h with
  | finish h =>
    obtain ⟨_, u, rfl, hu⟩ := h.mem_frame hup ha
    obtain rfl := Host.Outcome.next.inj hr
    exact hu
  | unimplemented | fatal =>
    obtain rfl := Host.Outcome.next.inj hr
    rfl

/-- A meaning that finds the bus broken at a planned access is a ResourceFault there. -/
theorem Result.Ends.faultsWhereBroken {i : Instr} {s : State} {r : Result} {plan : List (Access × Addr)}
    (h : r.Ends i s plan) (he : exec i s = r) : FaultsWhereBroken i s plan := by
  cases h with
  | finish h => exact faultsWhereBroken_of_finish s he fun _ hk hb => h.brokenAfter hk hb
  | unimplemented | fatal => exact fun k hk => absurd hk k.not_lt_zero

/-! ### The obligations -/

/-- Settles O9: the cell of least address of one canonical list is that of the other, and so on down both lists. -/
theorem canonicalMemoriesAreEqualData : Obligations.CanonicalMemoriesAreEqualData :=
  ⟨Memory.read_write, fun _ a v h => Memory.wf_write h a v, fun _ _ => Memory.eq_of_read_eq⟩

/-- Settles O10: each event by its own equation, batches by induction on the list, a step by what it can do. -/
theorem rendererWritesOnlyItsSet : Obligations.RendererWritesOnlyItsSet :=
  ⟨rendererMayWrite_iff,
    fun _ _ hl _ => State.applyBatch_renderer_read hl,
    fun _ _ v => ⟨fun h => State.applyExt_rendererWrite_of_may h v, fun h => State.applyExt_rendererWrite_of_not h v,
      rfl, rfl, rfl⟩,
    fun _ => ⟨rfl, rfl, rfl⟩,
    fun s e h => by rw [s.applyExt_busBroken e, h, Bool.true_or],
    fun _ _ hb h => step_keeps_broken h hb,
    State.applyBatch_eq_foldl,
    State.admit_nil,
    fun _ _ _ => State.admit_cons⟩

/-- Settles O15: the opcode read finds the bus two points after the start of the step, the later reads go on from there. -/
theorem brokenBusAtTheFetch : Obligations.BrokenBusAtTheFetch := by
  refine ⟨fun s hrun hstop hb => ?_, fun s hrun hstop hb hd => ?_⟩
  · obtain ⟨t, ht⟩ := fetch_of_broken (s := s.admitOne.markStarted) ((s.admitOne.markStarted_admits_busBroken 1).trans hb)
    exact ⟨_, step_of_fetch_broken hrun hstop ht, rfl, rfl⟩
  · have hvalue : s.admitOne.markStarted.valueAt s.admitOne.markStarted.pc = s.admitOne.valueAt s.pc := by
      rw [State.markStarted_pc, State.admit_pc]
      exact State.admit_read_congr s.pc rfl rfl rfl
    obtain ⟨t, ht⟩ := fetch_of_busDown (s := s.admitOne.markStarted)
      ((s.admitOne.markStarted_admits_busBroken 1).trans hb) (by
        rw [hvalue, State.markStarted_params, State.admit_params]
        exact ⟨hd.1, (s.admitOne.markStarted_admits_busBroken (_ + 1)).trans hd.2⟩)
    rw [hvalue] at ht
    exact ⟨_, step_of_fetch_broken hrun hstop ht, rfl, rfl⟩

/-- Settles O33: a push leaves the two bytes at the two addresses the pop reads. -/
theorem popReturnsWhatWasPushed : Obligations.PopReturnsWhatWasPushed := by
  intro s p q h
  obtain ⟨t, hpush, hpushed⟩ := exec_rowPush_pushed h p
  obtain ⟨u, hpop, hpair, hsp⟩ := exec_rowPop_of_pushed hpushed q
  exact ⟨t, u, hpush, hpop, hpair, hsp⟩

/-- Settles O48: every operation follows its plan of accesses, and ends where the bus breaks in it. -/
theorem brokenBusIsAResourceFault : Obligations.BrokenBusIsAResourceFault :=
  fun op s => (exec_instr_ends op s).faultsWhereBroken rfl

/-- Settles O51: a byte outside the planned stores is what the other agents alone leave, and they leave it where none acts. -/
theorem memoryFrame : Obligations.MemoryFrame := by
  intro op s t hup he a ha
  have hends := exec_instr_ends op s
  rw [he] at hends
  have hframe := hends.mem_frame hup (mt mem_stores_iff.mpr ha)
  exact ⟨hframe, fun hquiet => by rw [hframe, s.admits_nil hquiet]⟩

/-- Settles O19: each word by evaluation of the decoder. -/
theorem writtenOutWordsDecode : Obligations.WrittenOutWordsDecode :=
  ⟨rfl, rfl, rfl, rfl, rfl, rfl, rfl, rfl, rfl, rfl, rfl⟩

end Sys2Proof.Machine
end

section
/-! ## The decoder and the encoder are each other's inverses

The decoder follows the fields of the opcode byte (R56, R61), the encoder the rows of the table. What the decoder answers
spells the bytes it was given: a case split over the fields, row x by row x. And the bytes of a well-formed instruction read
back as that instruction, so that the encoder is one to one: a case split over the rows. Both directions are assembled from
these two facts. -/

namespace Sys2Proof
open Machine

/-! ### The decoder on a list of bytes -/

section
variable {sl : StopLen} {o : Byte} {tail : List Byte}

theorem decode_of_le (h : extraBytes sl o ≤ tail.length) :
    decode sl (o :: tail) =
      .ok ((describe sl o (tail.getD 0 0) (tail.getD 1 0)).instr, tail.drop (extraBytes sl o)) := by
  rw [decode_cons, if_neg h.not_gt]

theorem decode_of_lt (h : tail.length < extraBytes sl o) :
    decode sl (o :: tail) = .error (.truncated o (extraBytes sl o)) := by
  rw [decode_cons, if_pos h]

/-- What the decoder answers, it answers for an opcode byte that has its extra bytes after it. -/
theorem exists_of_decode_ok {bytes rest : List Byte} {i : Instr} (h : decode sl bytes = .ok (i, rest)) :
    ∃ o tail, bytes = o :: tail ∧ extraBytes sl o ≤ tail.length ∧
      (describe sl o (tail.getD 0 0) (tail.getD 1 0)).instr = i ∧ tail.drop (extraBytes sl o) = rest := by
  cases bytes with
  | nil => exact nomatch h
  | cons o tail =>
    rcases lt_or_ge tail.length (extraBytes sl o) with hlt | hle
    · exact nomatch (decode_of_lt hlt).symm.trans h
    · obtain ⟨hi, hrest⟩ := Prod.mk.inj (Except.ok.inj ((decode_of_le hle).symm.trans h))
      exact ⟨o, tail, rfl, hle, hi, hrest⟩

end

/-- The two bytes the decoder looks at, cut to a length the list has, are the head of the list. -/
theorem take_getD_getD {l : List Byte} {n : Nat} (hn : n ≤ 2) (hl : n ≤ l.length) :
    [l.getD 0 0, l.getD 1 0].take n = l.take n := by
  match n, l with
  | 0, _ | 1, _ :: _ | 2, _ :: _ :: _ => rfl

/-! ### What the decoder answers spells the bytes it was given -/

theorem opcodeByte_fields (o : Byte) : opcodeByte (fieldX o) (fieldY o) (fieldZ o) = o := by
  have := o.isLt
  apply BitVec.eq_of_toNat_eq
  rw [opcodeByte, BitVec.toNat_ofNat, fieldX, fieldY, fieldZ]
  omega

theorem fieldX_cases (o : Byte) : fieldX o = 0 ∨ fieldX o = 1 ∨ fieldX o = 2 ∨ fieldX o = 3 := by
  have hlt : fieldX o < 4 := Nat.div_lt_of_lt_mul o.isLt
  omega

theorem exists_eq_opcodeByte {o : Byte} {x : Nat} (hx : fieldX o = x) : ∃ y < 8, ∃ z < 8, o = opcodeByte x y z :=
  ⟨fieldY o, Nat.mod_lt _ (by decide), fieldZ o, Nat.mod_lt _ (by decide), by rw [← hx, opcodeByte_fields]⟩

/-- The instruction is well formed, and its bytes are `o` and, as far as `o` takes them, the low and the high byte of `v`. -/
structure Instr.Spells (sl : StopLen) (o : Byte) (v : Addr) (i : Instr) : Prop where
  wellFormed : i.wellFormed sl = true
  bytes : encode i = o :: [lowByte v, highByte v].take (extraBytes sl o)

/-- Every sub-opcode has an instruction of its own, never the bare CB byte (R62, R65). -/
theorem wellFormed_decodeCb (sl : StopLen) (sub : Byte) : (decodeCb sub).instr.wellFormed sl = true := by
  revert sub
  cases sl <;> decide

theorem encode_decodeCb (sub : Byte) : encode (decodeCb sub).instr = [0xCB, sub] := by
  revert sub
  decide

section
variable (sl : StopLen) (v : Addr) {o : Byte}

/-- The row x = 0, opcode byte by opcode byte; STOP's padding byte is there where STOP_LEN gives it one (R55). -/
theorem decodeX0_spells (hx : fieldX o = 0) : (decodeX0 sl o (lowByte v) v).instr.Spells sl o v := by
  obtain ⟨y, hy, z, hz, rfl⟩ := exists_eq_opcodeByte hx
  cases sl <;> interval_cases y <;> interval_cases z <;> exact ⟨rfl, rfl⟩

theorem decodeX1_spells (hx : fieldX o = 1) : (decodeX1 o).instr.Spells sl o v := by
  obtain ⟨y, hy, z, hz, rfl⟩ := exists_eq_opcodeByte hx
  interval_cases y <;> interval_cases z <;> exact ⟨rfl, rfl⟩

theorem decodeX2_spells (hx : fieldX o = 2) :
    (Operation.alu (aluOf (fieldY o)) (operandOf (fieldZ o)).source).instr.Spells sl o v := by
  obtain ⟨y, hy, z, hz, rfl⟩ := exists_eq_opcodeByte hx
  interval_cases y <;> interval_cases z <;> exact ⟨rfl, rfl⟩

/-- The row x = 3: at y = 1, z = 3 stands the CB byte, and the answer is the CB map's. -/
theorem decodeX3_spells (hx : fieldX o = 3) :
    (decodeX3 o (lowByte v) v (decodeCb (lowByte v))).instr.Spells sl o v := by
  obtain ⟨y, hy, z, hz, rfl⟩ := exists_eq_opcodeByte hx
  obtain hz | rfl | hz := lt_trichotomy z 3
  · interval_cases y <;> interval_cases z <;> exact ⟨rfl, rfl⟩
  · match y, hy with
    | 1, _ => exact ⟨wellFormed_decodeCb sl (lowByte v), encode_decodeCb (lowByte v)⟩
    | 0, _ | 2, _ | 3, _ | 4, _ | 5, _ | 6, _ | 7, _ => exact ⟨rfl, rfl⟩
  · interval_cases y <;> interval_cases z <;> exact ⟨rfl, rfl⟩

variable (o)

/-- The decoder's answer for any opcode byte and any two bytes after it. -/
theorem describe_spells : (describe sl o (lowByte v) (highByte v)).instr.Spells sl o v := by
  rcases fieldX_cases o with hx | hx | hx | hx <;> simp only [describe, decodeOperation, hx, joinBytes_high_low]
  · exact decodeX0_spells sl v hx
  · exact decodeX1_spells sl v hx
  · exact decodeX2_spells sl v hx
  · exact decodeX3_spells sl v hx

end

section
variable (sl : StopLen) (o b1 b2 : Byte)

theorem wellFormed_describe : (describe sl o b1 b2).instr.wellFormed sl = true := by
  simpa using (describe_spells sl (joinBytes b2 b1) o).wellFormed

theorem encode_describe : encode (describe sl o b1 b2).instr = o :: [b1, b2].take (extraBytes sl o) := by
  simpa using (describe_spells sl (joinBytes b2 b1) o).bytes

end

/-! ### The bytes of a well-formed instruction read back as it -/

/-- The decoder answers the instruction for its own bytes. -/
def Instr.ReadsBack (sl : StopLen) (i : Instr) : Prop :=
  ∃ o bs, encode i = o :: bs ∧ (describe sl o (bs.getD 0 0) (bs.getD 1 0)).instr = i

/-- A 16-bit immediate is joined again from its two bytes (R39, R59). -/
theorem Instr.ReadsBack.of_word {sl : StopLen} {f : Addr → Instr} {v : Addr} {o : Byte}
    (he : encode (f v) = [o, lowByte v, highByte v]) (hd : ∀ lo hi, (describe sl o lo hi).instr = f (joinBytes hi lo)) :
    (f v).ReadsBack sl :=
  ⟨o, _, he, (hd _ _).trans (congrArg f (joinBytes_high_low v))⟩

/-- Row by row of the opcode table: only the 16-bit immediates are put together again from more than one byte. -/
theorem Instr.readsBack {sl : StopLen} {i : Instr} (h : i.wellFormed sl = true) : i.ReadsBack sl := by
  cases i with
  | prefix_CB sub => exact absurd h Bool.false_ne_true
  | stop pad =>
    match sl, pad, h with
    | .one, none, _ | .two, some _, _ => exact ⟨_, _, rfl, rfl⟩
  | ld_BC_n16 v | ld_DE_n16 v | ld_HL_n16 v | ld_SP_n16 v | ld_ma16_SP v | ld_ma16_A v | ld_A_ma16 v | jp_a16 v
  | jp_NZ_a16 v | jp_Z_a16 v | jp_NC_a16 v | jp_C_a16 v | call_a16 v | call_NZ_a16 v | call_Z_a16 v | call_NC_a16 v
  | call_C_a16 v => exact .of_word rfl fun _ _ => rfl
  | _ => exact ⟨_, _, rfl, rfl⟩

section
variable {sl : StopLen} {i j : Instr}

/-- No two well-formed instructions have the same bytes. -/
theorem encode_inj (hi : i.wellFormed sl = true) (hj : j.wellFormed sl = true) (h : encode i = encode j) : i = j := by
  obtain ⟨o, bs, hio, hib⟩ := i.readsBack hi
  obtain ⟨o', bs', hjo, hjb⟩ := j.readsBack hj
  obtain ⟨rfl, rfl⟩ := List.cons.inj (hio.symm.trans (h.trans hjo))
  exact hib.symm.trans hjb

/-- The length of a well-formed instruction is a function of its opcode byte and STOP_LEN (R54, R65). -/
theorem exists_encode_eq_cons (h : i.wellFormed sl = true) :
    ∃ o bs, encode i = o :: bs ∧ bs.length = extraBytes sl o := by
  obtain ⟨o, bs, -, hi⟩ := i.readsBack h
  have hspelled := encode_describe sl o (bs.getD 0 0) (bs.getD 1 0)
  rw [hi] at hspelled
  exact ⟨o, _, hspelled, List.length_take_of_le (extraBytes_le_two sl o)⟩

end

/-! ### The obligations -/

/-- Settles O17: what the decoder answers spells its opcode byte and as many of the bytes after it as the opcode takes. -/
theorem encodeOfDecode : Obligations.EncodeOfDecode := by
  intro sl bytes rest i h
  obtain ⟨o, tail, rfl, hle, rfl, rfl⟩ := exists_of_decode_ok h
  refine ⟨wellFormed_describe sl o _ _, ?_⟩
  rw [encode_describe, take_getD_getD (extraBytes_le_two sl o) hle, List.cons_append, List.take_append_drop]

/-- Settles O16: the bytes are long enough for an answer, the answer has the same bytes, and the encoder is one to one. -/
theorem decodeOfEncode : Obligations.DecodeOfEncode := by
  intro sl i rest h
  obtain ⟨o, bs, hbytes, hlen⟩ := exists_encode_eq_cons h
  obtain ⟨j, hj⟩ : ∃ j, decode sl (encode i ++ rest) = .ok (j, rest) := by
    rw [hbytes, List.cons_append, decode_of_le (by simp [hlen]), List.drop_left' hlen]
    exact ⟨_, rfl⟩
  obtain ⟨hwf, hsame⟩ := encodeOfDecode sl _ rest j hj
  rwa [encode_inj hwf h (List.append_cancel_right hsame)] at hj

/-- Settles O18: an opcode byte with its extra bytes after it is answered, one without them is the truncation. -/
theorem decodeRefusesOnlyTruncation : Obligations.DecodeRefusesOnlyTruncation :=
  fun sl o _ => ⟨fun h => ⟨_, decode_of_le h⟩, decode_of_lt, extraBytes_le_two sl o⟩

end Sys2Proof
end

section
/-! ## The CB byte, and the operations that end with Ok -/

namespace Sys2Proof.Machine

/-! ### The CB byte (R65, R167) -/

section
variable {i j : Instr} {s : State}

/-- How an instruction ends turns on its bytes alone: their number and the opcode are what a ResourceFault reports (R171). -/
theorem finish_congr (h : encode i = encode j) (m : Bus Unit) : finish i s m = finish j s m := by
  cases m with
  | ok _ t => rfl
  | broken t => rw [finish_broken, finish_broken, Instr.length, Instr.opcode, h, ← Instr.length, ← Instr.opcode]

theorem cbInstruction_congr (h : encode i = encode j) (sub : Byte) : cbInstruction i sub s = cbInstruction j sub s := by
  unfold cbInstruction
  split
  case h_1 | h_3 | h_5 | h_7 => rfl
  case h_2 | h_4 | h_6 | h_8 => exact finish_congr h _

/-- The rule of a sub-opcode is the shared operation of the CB map's answer (R61). -/
theorem cbInstruction_decodeCb (sub : Byte) (s : State) :
    cbInstruction (decodeCb sub).instr sub s = runOperation (decodeCb sub) s := by
  unfold cbInstruction decodeCb
  generalize fieldX sub = x, operandOf (fieldZ sub) = o
  match x, o with
  | 0, .reg _ | 1, .reg _ | 2, .reg _ | _ + 3, .reg _ | 0, .mHL | 1, .mHL | 2, .mHL | _ + 3, .mHL => rfl

theorem decodeCb_instr_ne_prefix_CB (sub x : Byte) : (decodeCb sub).instr ≠ .prefix_CB x := by
  intro h
  have hwf := wellFormed_decodeCb .two sub
  rw [h] at hwf
  exact Bool.false_ne_true hwf

/-! ### How an operation that is wired ends (R63, R75) -/

/-- The meaning of `i`, run on `s`, ends with its use of the bus: Ok, or a ResourceFault. -/
def Result.Finishes (i : Instr) (s : State) (r : Result) : Prop := ∃ m, r = finish i s m

theorem done_finishes (i : Instr) (s t : State) : Result.Finishes i s (done t) := ⟨.ok () t, rfl⟩

theorem cbInstruction_finishes (i : Instr) (sub : Byte) (s : State) : Result.Finishes i s (cbInstruction i sub s) := by
  unfold cbInstruction
  split
  case h_1 | h_3 | h_5 | h_7 => exact done_finishes i s _
  case h_2 | h_4 | h_6 | h_8 => exact ⟨_, rfl⟩

theorem exec_finishes_of_wired {op : Operation} (h : op.wired = true) (s : State) :
    Result.Finishes op.instr s (exec op.instr s) := by
  rw [exec_instr]
  cases op with
  | halt | stop _ | di | ei | reti | illegal _ => exact absurd h Bool.false_ne_true
  | ldMHLReg _ | ldMHLImm _ | ldAbsAcc _ | ldhAbsAcc _ | ldPortAcc | ldAccAbs _ | ldhAccAbs _ | ldAccPort | ldRegMHL _
  | ldAccInd _ | ldIndAcc _ | ldAbsSp _ | push _ | pop _ | call _ | rst _ | callIf _ _ | ret | retIf _ => exact ⟨_, rfl⟩
  | alu _ src => cases src with
    | reg _ | imm _ => exact done_finishes _ s _
    | mHL => exact ⟨_, rfl⟩
  | inc o | dec o | rot _ o | bit _ o | res _ o | set _ o => cases o with
    | reg _ => exact done_finishes _ s _
    | mHL => exact ⟨_, rfl⟩
  | prefixCb sub => exact cbInstruction_finishes _ sub s
  | nop | ldRegReg _ _ | ldRegImm _ _ | ldWideImm _ _ | incWide _ | decWide _ | ldSpHl | ldHlSp _ | addHl _ | addSp _
  | accRot _ | daa | cpl | scf | ccf | jp _ | jpIf _ _ | jpHl | jr _ | jrIf _ _ => exact done_finishes _ s _

/-- An instruction that ends with its use of the bus reports Ok or a ResourceFault, and nothing else (R75, R171). -/
theorem finish_outcome {t : State} {m : Bus Unit} (h : .next t = finish i s m) :
    t.lastOutcome = some .ok ∨ ∃ a op, t.lastOutcome = some (.faulted (.resourceFault a op)) := by
  cases m with
  | ok _ u =>
    obtain rfl : t = u.returning .ok := Host.Outcome.next.inj h
    exact .inl rfl
  | broken u =>
    obtain rfl : t = u.raiseResourceFault _ _ := Host.Outcome.next.inj h
    exact .inr ⟨_, _, rfl⟩

theorem State.Performs.runState {x : Access × Addr} {t : State} (h : s.Performs x t) : t.runState = s.runState := by
  cases h <;> simp

/-- A use of the bus that finds it whole at every planned access happens, and leaves the run state (R53). -/
theorem Bus.Follows.ok_of_busUp {α : Type} {m : Bus α} {plan : List (Access × Addr)} (h : m.Follows s plan)
    (hup : s.BusUp plan.length) : ∃ v t, m = .ok v t ∧ t.runState = s.runState := by
  induction h with
  | ok v h => exact ⟨v, _, rfl, h.runState⟩
  | broken _ _ h => exact absurd h (by simp [hup.first])
  | access _ hx _ ih =>
    obtain ⟨v, t, hm, ht⟩ := ih (hx.busUp hup)
    exact ⟨v, t, hm, ht.trans hx.runState⟩
  | registers h _ ih =>
    obtain ⟨v, t, hm, ht⟩ := ih (h.busUp.mpr hup)
    exact ⟨v, t, hm, ht.trans h.runState⟩

/-- Of the ways a meaning can end, one that ends with its use of a whole bus ends with Ok. -/
theorem Result.Ends.ok_of_finishes {r : Result} {plan : List (Access × Addr)} (h : r.Ends i s plan)
    (hf : r.Finishes i s) (hup : s.BusUp plan.length) :
    ∃ t, r = .next t ∧ t.lastOutcome = some .ok ∧ t.runState = s.runState := by
  obtain ⟨m, hm⟩ := hf
  cases h with
  | finish h =>
    obtain ⟨_, t, rfl, ht⟩ := h.ok_of_busUp hup
    exact ⟨t.returning .ok, rfl, rfl, ht⟩
  | unimplemented | fatal => rcases finish_outcome hm with h | ⟨_, _, h⟩ <;> exact nomatch h

end

/-! ### The obligations -/

/-- Settles O42: the row of the CB byte has the bytes of the CB instruction, and runs the rule of its sub-opcode. -/
theorem prefixIsTheInstructionOfItsSubOpcode : Obligations.PrefixIsTheInstructionOfItsSubOpcode := by
  refine ⟨fun s sub => ?_, fun sl sub rest => ⟨?_, decodeCb_instr_ne_prefix_CB sub⟩⟩
  · calc exec (.prefix_CB sub) s
      _ = cbInstruction (.prefix_CB sub) sub s := rfl
      _ = cbInstruction (decodeCb sub).instr sub s :=
        cbInstruction_congr (i := .prefix_CB sub) (encode_decodeCb sub).symm sub
      _ = runOperation (decodeCb sub) s := cbInstruction_decodeCb sub s
      _ = exec (decodeCb sub).instr s := (exec_instr (decodeCb sub) s).symm
  · exact decode_of_le (o := 0xCB) (tail := sub :: rest) (Nat.le_add_left 1 rest.length)

/-- Settles O47: a wired operation ends with its use of the bus, which finds the bus whole. -/
theorem wiredInstructionsEndWithOk : Obligations.WiredInstructionsEndWithOk :=
  fun op s hwired hup => (exec_instr_ends op s).ok_of_finishes (exec_finishes_of_wired hwired s) hup

end Sys2Proof.Machine
end

section
/-! ## What a Faulted engine keeps, and where a fetch leaves PC -/

namespace Sys2Proof.Machine

/-! ### A Faulted engine (R70, R176) -/

/-- Between `s` and `t` nothing happened to the engine: run state, registers, flags, PC and SP are the same, and it made no
access. Of the bus and the host's side nothing is said: other agents may have acted. -/
structure State.EngineIdle (s t : State) : Prop where
  runState : t.runState = s.runState
  regs : t.regs = s.regs
  flags : t.flags = s.flags
  pc : t.pc = s.pc
  sp : t.sp = s.sp
  record : engineAccesses t.busLog = engineAccesses s.busLog

section
variable {s t u : State} {o : Terminal}

theorem State.engineIdle_refl (s : State) : s.EngineIdle s := ⟨rfl, rfl, rfl, rfl, rfl, rfl⟩

theorem State.EngineIdle.trans (h : s.EngineIdle t) (hu : t.EngineIdle u) : s.EngineIdle u where
  runState := hu.runState.trans h.runState
  regs := hu.regs.trans h.regs
  flags := hu.flags.trans h.flags
  pc := hu.pc.trans h.pc
  sp := hu.sp.trans h.sp
  record := hu.record.trans h.record

/-- A point at which the other agents act, and an outcome returned, do nothing to the engine (R29). -/
theorem State.engineIdle_admit_returning (s : State) (r : StepOutcome) : s.EngineIdle (s.admitOne.returning r) where
  runState := s.admit_runState
  regs := s.admit_regs
  flags := s.admit_flags
  pc := s.admit_pc
  sp := s.admit_sp
  record := s.admit_engineAccesses

theorem steps_succ_of_step {k : Nat} (h : step s = .next t) : steps (k + 1) s = steps k t := by
  simp only [steps, h]

/-- A Faulted engine is idle in any number of steps. Its outcome is the last one returned if a step returned it, in these steps
or before them. -/
theorem steps_of_faulted (k : Nat) (h : s.runState = .faulted o) :
    ∃ t, steps k s = .next t ∧ s.EngineIdle t ∧
      (k ≠ 0 ∨ s.lastOutcome = some (.faulted o) → t.lastOutcome = some (.faulted o)) := by
  induction k generalizing s with
  | zero => exact ⟨s, rfl, s.engineIdle_refl, fun hl => hl.resolve_left fun hk => hk rfl⟩
  | succ k ih =>
    have hidle := s.engineIdle_admit_returning (.faulted o)
    obtain ⟨t, ht, hrest, hlast⟩ := ih (hidle.runState.trans h)
    exact ⟨t, (steps_succ_of_step (step_of_faulted h)).trans ht, hidle.trans hrest, fun _ => hlast (.inr rfl)⟩

/-! ### PC during the fetch (R71 to R73) -/

/-- A property that other agents and engine reads keep is kept by reads one after another. -/
theorem busReadBytes_leaves {P : State → Prop} (ha : ∀ t, P t → P t.admitOne)
    (hr : ∀ t a, P t → P (t.afterAgentRead .engine a)) (a : Addr) (n : Nat) (h : P s) :
    (busReadBytes a n s).Leaves P := by
  induction n generalizing a s with
  | zero => exact h
  | succ n ih => exact (busRead_leaves s ha hr a h).andThen fun _ _ ht => (ih (a + 1) ht).andThen fun _ _ hu => hu

/-- A fetch that answers a descriptor read its opcode byte and then its extra bytes. -/
theorem exists_of_fetch_ok {d : Descriptor} (h : fetch s = .ok d t) :
    ∃ op u bs, busRead s.pc s = .ok op u ∧ busReadBytes (s.pc + 1) (extraBytes s.params.stopLen op) u = .ok bs t := by
  cases hop : busRead s.pc s with
  | broken u => exact nomatch (fetch_broken_first hop).symm.trans h
  | ok op u =>
    cases hbs : busReadBytes (s.pc + 1) (extraBytes s.params.stopLen op) u with
    | broken v => exact nomatch (fetch_broken_later hop hbs).symm.trans h
    | ok bs v =>
      obtain ⟨-, rfl⟩ := Fetched.ok.inj ((fetch_ok hop hbs).symm.trans h)
      exact ⟨op, u, bs, rfl, hbs⟩

/-- The reads of a fetch leave PC: neither the other agents nor an engine read writes it. -/
theorem pc_of_fetch_ok {d : Descriptor} (h : fetch s = .ok d t) : t.pc = s.pc := by
  obtain ⟨op, u, bs, hop, hbs⟩ := exists_of_fetch_ok h
  have hagents : ∀ v : State, v.pc = s.pc → v.admitOne.pc = s.pc := fun v hv => v.admit_pc.trans hv
  have hu := busRead_leaves s hagents (fun _ _ hv => hv) s.pc rfl
  rw [hop] at hu
  have ht := busReadBytes_leaves hagents (fun _ _ hv => hv) (s.pc + 1) (extraBytes s.params.stopLen op) hu
  rwa [hbs] at ht

end

/-! ### The obligations -/

/-- Settles O55: the first step returns the outcome, each later one returns it again, and all of them leave the engine idle. -/
theorem faultedForever : Obligations.FaultedForever := by
  intro k s o h
  obtain ⟨t, ht, hidle, hlast⟩ := steps_of_faulted k h
  exact ⟨t, ht, hidle.runState.trans h, hidle.regs, hidle.flags, hidle.pc, hidle.sp, hidle.record, fun hk => hlast (.inl hk)⟩

/-- Settles O11: the Faulted branch of the step's start. -/
theorem faultedEngineReturnsItsOutcome : Obligations.FaultedEngineReturnsItsOutcome :=
  fun _ _ => step_of_faulted

/-- Settles O12: the branch of the step's start that finds the stop signal set. -/
theorem stopSignalEndsTheStep : Obligations.StopSignalEndsTheStep :=
  fun _ => step_of_stopRequested

/-- Settles O13: the PC advance counts from the PC the fetch left, which is the PC the step began with. -/
theorem stepDispatchesWhatItFetched : Obligations.StepDispatchesWhatItFetched := by
  intro s t d hrun hstop hfetch
  have hpc : t.pc = s.pc := (pc_of_fetch_ok hfetch).trans s.admit_pc
  exact ⟨hpc ▸ step_of_fetch_ok hrun hstop hfetch, hpc⟩

end Sys2Proof.Machine
end

section
/-! ## 8-bit arithmetic and logic

What the two-operand accumulator operations, INC, DEC, DAA and the flag operations answer: their results in exact arithmetic,
and the next state of each by the shared operation behind its rows. -/

namespace Sys2Proof.Machine

/-! ### Results in exact arithmetic (R81, R82, R95) -/

/-- An exact integer narrowed to a byte is taken modulo 256 (R9). -/
theorem byte_ofInt_toNat (i : Int) : ((BitVec.ofInt 8 i).toNat : Int) = i % 256 := by
  rw [BitVec.toNat_ofInt, Int.toNat_of_nonneg (Int.emod_nonneg i (by decide))]
  rfl

section
variable (a b : Byte) {f : Flags}

theorem add8_out_toNat (cin : Bool) : (add8 a b cin).out.toNat = (a.toNat + b.toNat + b2i cin) % 256 :=
  BitVec.toNat_ofNat ..

theorem add8_z_iff (cin : Bool) : (add8 a b cin).flags.z = true ↔ (add8 a b cin).out = 0 := beq_iff_eq

theorem add8_h_iff (cin : Bool) : (add8 a b cin).flags.h = true ↔ a.toNat % 16 + b.toNat % 16 + b2i cin > 15 :=
  decide_eq_true_iff

theorem add8_c_iff (cin : Bool) : (add8 a b cin).flags.c = true ↔ a.toNat + b.toNat + b2i cin > 255 :=
  decide_eq_true_iff

theorem sub8_out_toNat (bin : Bool) :
    ((sub8 a b bin).out.toNat : Int) = ((a.toNat : Int) - b.toNat - b2i bin) % 256 :=
  byte_ofInt_toNat _

theorem sub8_z_iff (bin : Bool) : (sub8 a b bin).flags.z = true ↔ (sub8 a b bin).out = 0 := beq_iff_eq

/-- A negative exact difference is a borrow: of the low nibbles here, of the bytes in `sub8_c_iff`. -/
theorem sub8_h_iff (bin : Bool) : (sub8 a b bin).flags.h = true ↔ a.toNat % 16 < b.toNat % 16 + b2i bin :=
  decide_eq_true_iff.trans (by omega)

theorem sub8_c_iff (bin : Bool) : (sub8 a b bin).flags.c = true ↔ a.toNat < b.toNat + b2i bin :=
  decide_eq_true_iff.trans (by omega)

theorem daa8_c_iff_of_add (h : f.n = false) : (daa8 a f).flags.c = true ↔ f.c = true ∨ a.toNat > 0x99 := by
  simp [daa8, h]

/-- After an addition the adjusted sum is a natural number, narrowed at the end. -/
theorem daa8_out_toNat_of_add (h : f.n = false) : (daa8 a f).out.toNat =
    (a.toNat + (if f.c = true ∨ a.toNat > 0x99 then 0x60 else 0)
      + (if f.h = true ∨ a.toNat % 16 > 9 then 0x06 else 0)) % 256 := by
  apply Int.natCast_inj.mp
  simp only [daa8, h, byte_ofInt_toNat]
  simp

theorem daa8_c_of_sub (h : f.n = true) : (daa8 a f).flags.c = f.c := by
  simp [daa8, h]

theorem daa8_out_toNat_of_sub (h : f.n = true) : ((daa8 a f).out.toNat : Int) =
    ((a.toNat : Int) - (if f.c = true then 0x60 else 0) - (if f.h = true then 0x06 else 0)) % 256 := by
  simp only [daa8, h, byte_ofInt_toNat, if_true]

end

/-! ### The accumulator operations (R80, R83 to R90) -/

section
variable {s t : State} {src : Source8} {v : Byte}

/-- Reading the source leaves registers, flags and parameters: an access of the bus writes none of them. -/
theorem State.Gives.keeps (h : s.Gives src v t) : t.regs = s.regs ∧ t.flags = s.flags ∧ t.params = s.params := by
  cases src with
  | reg _ | imm _ =>
    obtain ⟨-, rfl⟩ := h
    exact ⟨rfl, rfl, rfl⟩
  | mHL =>
    obtain ⟨-, -, rfl⟩ := h
    exact ⟨s.afterRead_regs _, s.afterRead_flags _, s.afterRead_params _⟩

/-- Every source goes to the one operation on A, with the byte it gives. -/
theorem exec_rowAlu (h : s.Gives src v t) (k : AluOp) : exec (rowAlu k src) s = .next ((aluOn k v t).returning .ok) := by
  refine (exec_instr (.alu k src) s).trans ?_
  cases src with
  | reg _ | imm _ =>
    obtain ⟨rfl, rfl⟩ := h
    rfl
  | mHL =>
    obtain ⟨hup, rfl, rfl⟩ := h
    rw [runOperation, aluMHL, withMHL_ok s _ hup.first, finish_ok]

end

theorem encode_rowAlu_reg (k : AluOp) (r : Reg8) : encode (rowAlu k (.reg r)) = [opcodeByte 2 k.field r.field] := by
  cases k <;> cases r <;> rfl

theorem encode_rowAlu_mHL (k : AluOp) : encode (rowAlu k .mHL) = [opcodeByte 2 k.field 6] := by
  cases k <;> rfl

theorem encode_rowAlu_imm (k : AluOp) (n : Byte) : encode (rowAlu k (.imm n)) = [opcodeByte 3 k.field 6, n] := by
  cases k <;> rfl

/-! ### INC and DEC (R91 to R94) -/

/-- A read of (HL) and a write back that find the bus whole; neither access touches the flags the result is made from. -/
theorem modifyMem_ok {s : State} (f : Byte → Flags → Result8) (h : s.BusUp 2) :
    modifyMem f s = .ok () (((s.afterRead s.hl).afterWrite s.hl (f (s.valueAt s.hl) s.flags).out).setFlags
      (f (s.valueAt s.hl) s.flags).flags) := by
  rw [modifyMem, modifyMHL_ok s _ _ h.whole]
  simp only [State.afterWrite_flags, State.afterRead_flags]

/-- An instruction that reads (HL) and writes back ends with Ok where both accesses find the bus whole. -/
theorem finish_modifyMem (i : Instr) {s : State} (f : Byte → Flags → Result8) (h : s.BusUp 2) :
    finish i s (modifyMem f s) = .next ((((s.afterRead s.hl).afterWrite s.hl (f (s.valueAt s.hl) s.flags).out).setFlags
      (f (s.valueAt s.hl) s.flags).flags).returning .ok) := by
  rw [modifyMem_ok f h, finish_ok]

theorem encode_rowInc (o : Operand8) : encode (rowInc o) = [opcodeByte 0 o.field 4] := by
  cases o with
  | reg r => cases r <;> rfl
  | mHL => rfl

theorem encode_rowDec (o : Operand8) : encode (rowDec o) = [opcodeByte 0 o.field 5] := by
  cases o with
  | reg r => cases r <;> rfl
  | mHL => rfl

/-! ### The obligations -/

/-- Settles O20: each result by the rule of narrowing, each flag by its test; a negative difference is a borrow. -/
theorem addAndSubtractFlags : Obligations.AddAndSubtractFlags :=
  ⟨fun a b cin => ⟨add8_out_toNat a b cin, add8_z_iff a b cin, rfl, add8_h_iff a b cin, add8_c_iff a b cin⟩,
    fun a b bin => ⟨sub8_out_toNat a b bin, sub8_z_iff a b bin, rfl, sub8_h_iff a b bin, sub8_c_iff a b bin⟩⟩

/-- Settles O21: every source goes to the one operation on A, and what it is made from is as before the read. -/
theorem accumulatorOperations : Obligations.AccumulatorOperations := by
  refine ⟨fun s t src v h => ?_, fun s k => brokenBusIsAResourceFault (.alu k .mHL) s,
    fun k r n => ⟨encode_rowAlu_reg k r, encode_rowAlu_mHL k, encode_rowAlu_imm k n⟩⟩
  obtain ⟨hregs, hflags, hparams⟩ := h.keeps
  rw [← hregs, ← hflags, ← hparams]
  exact ⟨exec_rowAlu h .add, exec_rowAlu h .adc, exec_rowAlu h .sub, exec_rowAlu h .sbc, exec_rowAlu h .and,
    exec_rowAlu h .xor, exec_rowAlu h .or, exec_rowAlu h .cp⟩

/-- Settles O22: the register forms by their shared operation, the (HL) forms by the read and the write back of one address. -/
theorem incrementAndDecrement : Obligations.IncrementAndDecrement := by
  refine ⟨fun s r => ⟨exec_instr (.inc (.reg r)) s, exec_instr (.dec (.reg r)) s⟩, fun s v hup hv => ?_,
    fun s => ⟨brokenBusIsAResourceFault (.inc .mHL) s, brokenBusIsAResourceFault (.dec .mHL) s⟩,
    fun o => ⟨encode_rowInc o, encode_rowDec o⟩⟩
  subst hv
  exact ⟨(exec_instr (.inc .mHL) s).trans (finish_modifyMem _ inc8 hup),
    (exec_instr (.dec .mHL) s).trans (finish_modifyMem _ dec8 hup)⟩

/-- Settles O23: the result and the carry are those of `daa8`, branch by branch of N. -/
theorem decimalAdjust : Obligations.DecimalAdjust :=
  ⟨fun s => ⟨(daa8 s.regs.a s.flags).out, (daa8 s.regs.a s.flags).flags.c, exec_instr .daa s,
    fun hn => ⟨daa8_c_iff_of_add _ hn, daa8_out_toNat_of_add _ hn⟩,
    fun hn => ⟨daa8_c_of_sub _ hn, daa8_out_toNat_of_sub _ hn⟩⟩, rfl⟩

/-- Settles O24: each by the shared operation behind its row. -/
theorem complementAndCarryFlag : Obligations.ComplementAndCarryFlag :=
  ⟨fun s => ⟨exec_instr .cpl s, exec_instr .scf s, exec_instr .ccf s⟩, rfl, rfl, rfl⟩

end Sys2Proof.Machine
end

section
/-! ## 16-bit arithmetic

ADD HL,rr, INC rr, DEC rr, and SP plus a signed displacement: each runs one shared operation, whose sum in exact integers is the
sum of machine words. None of them uses the bus, so each next state is the destination and the flags written, with Ok. -/

namespace Sys2Proof.Machine

/-! ### Sums narrowed at the end (R9, R100, R103, R104) -/

/-- The exact sum of two words, narrowed, is their sum modulo 2^16. -/
theorem add16_out (a b : Addr) (f : Flags) : (add16 a b f).out = a + b := (BitVec.add_def a b).symm

/-- The displacement counts as a signed byte, in exact integers. -/
theorem addSpOffset_out (a : Addr) (e : Byte) : (addSpOffset a e).out = BitVec.ofInt 16 (a.toNat + e.toInt) :=
  add_signExtend8 a e

/-! ### The next states -/

/-- Every form of ADD HL,rr writes the sum to HL, and the flags of the addition. -/
theorem exec_rowAddHl (p : Wide) (s : State) : exec (rowAddHl p) s =
    .next (((s.setPair .hl (s.hl + s.wide p)).setFlags (add16 s.hl (s.wide p) s.flags).flags).returning .ok) := by
  rw [← add16_out s.hl (s.wide p) s.flags]
  exact exec_instr (.addHl p) s

theorem exec_rowIncWide (p : Wide) (s : State) :
    exec (rowIncWide p) s = .next ((s.setWide p (s.wide p + 1)).returning .ok) := exec_instr (.incWide p) s

theorem exec_rowDecWide (p : Wide) (s : State) :
    exec (rowDecWide p) s = .next ((s.setWide p (s.wide p - 1)).returning .ok) := exec_instr (.decWide p) s

section
variable (e : Byte) (s : State)

theorem exec_add_SP_e8 : exec (.add_SP_e8 e) s = .next
    (((s.setSp (BitVec.ofInt 16 (s.sp.toNat + e.toInt))).setFlags (addSpOffset s.sp e).flags).returning .ok) := by
  rw [← addSpOffset_out]
  exact exec_instr (.addSp e) s

theorem exec_ld_HL_SPe8 : exec (.ld_HL_SPe8 e) s = .next
    (((s.setPair .hl (BitVec.ofInt 16 (s.sp.toNat + e.toInt))).setFlags (addSpOffset s.sp e).flags).returning .ok) := by
  rw [← addSpOffset_out]
  exact exec_instr (.ldHlSp e) s

end

/-! ### The encodings (R58, R61) -/

section
variable (p : Wide)

theorem encode_rowAddHl : encode (rowAddHl p) = [opcodeByte 0 (2 * p.field + 1) 1] := by
  cases p <;> rfl

theorem encode_rowIncWide : encode (rowIncWide p) = [opcodeByte 0 (2 * p.field) 3] := by
  cases p <;> rfl

theorem encode_rowDecWide : encode (rowDecWide p) = [opcodeByte 0 (2 * p.field + 1) 3] := by
  cases p <;> rfl

end

/-! ### The obligations -/

/-- Settles O25: each form by its row's next state; a pair written is its two registers written, and no other field. -/
theorem wideArithmetic : Obligations.WideArithmetic :=
  ⟨fun _ => ⟨rfl, rfl, rfl, rfl⟩,
    fun s p => exec_rowAddHl p s,
    fun s => ⟨exec_rowIncWide .bc s, exec_rowIncWide .de s, exec_rowIncWide .hl s, exec_rowIncWide .sp s⟩,
    fun s => ⟨exec_rowDecWide .bc s, exec_rowDecWide .de s, exec_rowDecWide .hl s, exec_rowDecWide .sp s⟩,
    fun p => ⟨encode_rowAddHl p, encode_rowIncWide p, encode_rowDecWide p⟩⟩

/-- Settles O26: both forms make the same sum and the same flags, and differ in the destination alone. -/
theorem stackPointerPlusDisplacement : Obligations.StackPointerPlusDisplacement := by
  refine ⟨fun s e f hf => ?_, fun e => ⟨rfl, rfl⟩⟩
  subst hf
  exact ⟨exec_add_SP_e8 e s, exec_ld_HL_SPe8 e s⟩

end Sys2Proof.Machine
end

section
/-! ## Loads, stores and register moves

A load or store with a bus access makes one access (LD (a16),SP two), at an address computed before it. Where the access finds
the bus whole, the next state is that access with the destination written and HL stepped. -/

namespace Sys2Proof.Machine

/-! ### Register writes after an access: the access touched no register (R29, R43) -/

theorem State.setReg_afterRead (s : State) (a : Addr) (r : Reg8) (v : Byte) :
    (s.afterRead a).setReg r v = { s.afterRead a with regs := s.regs.put r v } := by
  rw [State.setReg, State.afterRead_regs]

theorem State.setPair_hl_afterWrite (s : State) (a w : Addr) (v : Byte) :
    (s.afterWrite a v).setPair .hl w = { s.afterWrite a v with regs := (s.setPair .hl w).regs } := by
  rw [State.setPair_hl_regs, ← s.afterWrite_regs a v]
  rfl

/-! ### Loads into a 16-bit register (R124) -/

theorem exec_rowLdWideImm (p : Wide) (n : Addr) (s : State) :
    exec (rowLdWideImm n p) s = .next ((s.setWide p n).returning .ok) := exec_instr (.ldWideImm p n) s

/-! ### Accesses that find the bus whole -/

section
variable {s : State} (h : s.BusUp 1)
include h

/-- LD r,(HL): the destination wins over the registers of the address (R107). -/
theorem exec_rowLdRegMHL (dst : Reg8) : exec (rowLdRegMHL dst) s =
    .next (State.returning { s.afterRead s.hl with regs := s.regs.put dst (s.valueAt s.hl) } .ok) := by
  rw [← State.setReg_afterRead]
  refine (exec_instr (.ldRegMHL dst) s).trans ?_
  rw [runOperation, loadRegMHL, withMHL_ok s _ h.first, finish_ok]

/-- A is written first, then HL is stepped from the address (R110, R111, R116, R117). -/
theorem exec_rowLdAccInd (p : Indirect) : exec (rowLdAccInd p) s =
    .next ((State.stepIndirect { s.afterRead (s.indirectAddr p) with
      regs := s.regs.put .a (s.valueAt (s.indirectAddr p)) } p (s.indirectAddr p)).returning .ok) := by
  rw [← State.setReg_afterRead]
  refine (exec_instr (.ldAccInd p) s).trans ?_
  rw [runOperation, loadAccInd, busRead_ok s _ h.first, Bus.andThen_ok, finish_ok]

theorem exec_rowLdIndAcc (p : Indirect) : exec (rowLdIndAcc p) s =
    .next (((s.afterWrite (s.indirectAddr p) s.regs.a).stepIndirect p (s.indirectAddr p)).returning .ok) := by
  refine (exec_instr (.ldIndAcc p) s).trans ?_
  rw [runOperation, storeIndAcc, busWrite_ok s _ _ h.first, Bus.andThen_ok, finish_ok]

/-- The forms that load A and step nothing differ in the address alone (R119, R121, R123). -/
theorem loadAccAt_ok (i : Instr) (a : Addr) : loadAccAt i a s =
    .next (State.returning { s.afterRead a with regs := s.regs.put .a (s.valueAt a) } .ok) := by
  rw [loadAccAt, busRead_ok s a h.first, Bus.andThen_ok, finish_ok, State.setReg_afterRead]

/-- A store that steps nothing is its one write (R108, R109, R118, R120, R122). -/
theorem finish_busWrite (i : Instr) (a : Addr) (v : Byte) :
    finish i s (busWrite a v s) = .next ((s.afterWrite a v).returning .ok) := by
  rw [busWrite_ok s a v h.first, finish_ok]

end

theorem exec_ld_ma16_SP {s : State} (h : s.BusUp 2) (a : Addr) : exec (.ld_ma16_SP a) s =
    .next (((s.afterWrite a (lowByte s.sp)).afterWrite (a + 1) (highByte s.sp)).returning .ok) := by
  refine (exec_instr (.ldAbsSp a) s).trans ?_
  rw [runOperation, storeSpAt, busWrite16_ok s a s.sp h.whole, finish_ok]

/-! ### The encodings (R57, R58, R61) -/

theorem encode_rowLdRegReg (dst src : Reg8) : encode (rowLdRegReg dst src) = [opcodeByte 1 dst.field src.field] := by
  cases dst <;> cases src <;> rfl

theorem encode_rowLdRegImm (dst : Reg8) (n : Byte) : encode (rowLdRegImm n dst) = [opcodeByte 0 dst.field 6, n] := by
  cases dst <;> rfl

theorem encode_rowLdWideImm (p : Wide) (n : Addr) :
    encode (rowLdWideImm n p) = [opcodeByte 0 (2 * p.field) 1, lowByte n, highByte n] := by
  cases p <;> rfl

theorem encode_rowLdRegMHL (dst : Reg8) : encode (rowLdRegMHL dst) = [opcodeByte 1 dst.field 6] := by
  cases dst <;> rfl

theorem encode_rowLdMHLReg (src : Reg8) : encode (rowLdMHLReg src) = [opcodeByte 1 6 src.field] := by
  cases src <;> rfl

theorem encode_rowLdAccInd (p : Indirect) : encode (rowLdAccInd p) = [opcodeByte 0 (2 * p.field + 1) 2] := by
  cases p <;> rfl

theorem encode_rowLdIndAcc (p : Indirect) : encode (rowLdIndAcc p) = [opcodeByte 0 (2 * p.field) 2] := by
  cases p <;> rfl

/-! ### The obligations -/

/-- Settles O27: each form by the shared operation behind its row, which writes the destination and Ok. -/
theorem registerLoads : Obligations.RegisterLoads :=
  ⟨fun s dst src => exec_instr (.ldRegReg dst src) s,
    fun s dst n => exec_instr (.ldRegImm dst n) s,
    fun s n => ⟨exec_rowLdWideImm .bc n s, exec_rowLdWideImm .de n s, exec_rowLdWideImm .hl n s,
      exec_rowLdWideImm .sp n s⟩,
    fun s => exec_instr .ldSpHl s,
    fun dst src n p w => ⟨encode_rowLdRegReg dst src, encode_rowLdRegImm dst n, encode_rowLdWideImm p w, rfl⟩⟩

/-- Settles O28: one read, then registers written from the file the read left as it was. -/
theorem loadsFromMemory : Obligations.LoadsFromMemory :=
  ⟨fun _ dst hup => exec_rowLdRegMHL hup dst,
    fun _ hup => ⟨exec_rowLdAccInd hup .bc, exec_rowLdAccInd hup .de, exec_rowLdAccInd hup .hlInc,
      exec_rowLdAccInd hup .hlDec⟩,
    fun s a n hup => ⟨(exec_instr (.ldAccAbs a) s).trans (loadAccAt_ok hup _ a),
      (exec_instr (.ldhAccAbs n) s).trans (loadAccAt_ok hup _ (pageAddr n)),
      (exec_instr .ldAccPort s).trans (loadAccAt_ok hup _ (pageAddr s.regs.c))⟩,
    fun s dst a n => ⟨brokenBusIsAResourceFault (.ldRegMHL dst) s, brokenBusIsAResourceFault (.ldAccInd .bc) s,
      brokenBusIsAResourceFault (.ldAccInd .de) s, brokenBusIsAResourceFault (.ldAccInd .hlInc) s,
      brokenBusIsAResourceFault (.ldAccInd .hlDec) s, brokenBusIsAResourceFault (.ldAccAbs a) s,
      brokenBusIsAResourceFault (.ldhAccAbs n) s, brokenBusIsAResourceFault .ldAccPort s⟩,
    fun dst p _ _ => ⟨encode_rowLdRegMHL dst, encode_rowLdAccInd p, rfl, rfl, rfl⟩⟩

/-- Settles O29: one write; (HL+) and (HL-) then write HL, in the register file the write left as it was. -/
theorem oneByteStores : Obligations.OneByteStores := by
  refine ⟨fun s src n hup => ⟨(exec_instr (.ldMHLReg src) s).trans (finish_busWrite hup _ s.hl (s.reg src)),
      (exec_instr (.ldMHLImm n) s).trans (finish_busWrite hup _ s.hl n)⟩,
    fun s hup => ?_,
    fun s a n hup => ⟨(exec_instr (.ldAbsAcc a) s).trans (finish_busWrite hup _ a s.regs.a),
      (exec_instr (.ldhAbsAcc n) s).trans (finish_busWrite hup _ (pageAddr n) s.regs.a),
      (exec_instr .ldPortAcc s).trans (finish_busWrite hup _ (pageAddr s.regs.c) s.regs.a)⟩,
    fun s src a n => ⟨brokenBusIsAResourceFault (.ldMHLReg src) s, brokenBusIsAResourceFault (.ldMHLImm n) s,
      brokenBusIsAResourceFault (.ldIndAcc .bc) s, brokenBusIsAResourceFault (.ldIndAcc .de) s,
      brokenBusIsAResourceFault (.ldIndAcc .hlInc) s, brokenBusIsAResourceFault (.ldIndAcc .hlDec) s,
      brokenBusIsAResourceFault (.ldAbsAcc a) s, brokenBusIsAResourceFault (.ldhAbsAcc n) s,
      brokenBusIsAResourceFault .ldPortAcc s⟩,
    fun src p _ _ => ⟨encode_rowLdMHLReg src, rfl, encode_rowLdIndAcc p, rfl, rfl, rfl⟩⟩
  have hstep (w : Addr) := congrArg done (s.setPair_hl_afterWrite s.hl w s.regs.a)
  exact ⟨exec_rowLdIndAcc hup .bc, exec_rowLdIndAcc hup .de,
    (exec_rowLdIndAcc hup .hlInc).trans (hstep (s.hl + 1)), (exec_rowLdIndAcc hup .hlDec).trans (hstep (s.hl - 1))⟩

/-- Settles O30: two writes in order; where the bus breaks at the second, the first is in the record. -/
theorem storeStackPointer : Obligations.StoreStackPointer :=
  ⟨fun _ a hup => exec_ld_ma16_SP hup a, fun s a => brokenBusIsAResourceFault (.ldAbsSp a) s, fun _ => rfl⟩

end Sys2Proof.Machine
end

section
/-! ## The stack

PUSH and POP are the two accesses of the stack operation behind them, with SP moved and, for POP, the pair written once at the
end. CALL pushes PC and RET pops it, so that what a push leaves is what the return finds. -/

namespace Sys2Proof.Machine

/-! ### Push and pop of a pair on a whole bus (R127 to R131) -/

section
variable {s : State} (h : s.BusUp 2)
include h

theorem exec_rowPush (p : Pair) : exec (rowPush p) s =
    .next ((((s.afterWrite (s.sp - 1) (highByte (s.pair p))).afterWrite (s.sp - 2) (lowByte (s.pair p))).setSp
      (s.sp - 2)).returning .ok) := by
  refine (exec_instr (.push p) s).trans ?_
  rw [runOperation, pushPair, push16_ok s _ h.whole, finish_ok]

/-- The word popped is the one whose halves the two reads get, the low one first. -/
theorem exec_rowPop {v : Addr} (hlo : lowByte v = s.valueAt s.sp)
    (hhi : highByte v = (s.afterRead s.sp).valueAt (s.sp + 1)) (p : Pair) : exec (rowPop p) s =
    .next (((((s.afterRead s.sp).afterRead (s.sp + 1)).setSp (s.sp + 2)).setPair p v).returning .ok) := by
  refine (exec_instr (.pop p) s).trans ?_
  rw [runOperation, popPair, pop16_ok s h.whole, ← hlo, ← hhi, joinBytes_high_low, Bus.andThen_ok, finish_ok]

end

theorem exists_eq_halves (hi lo : Byte) : ∃ v : Addr, lowByte v = lo ∧ highByte v = hi :=
  ⟨joinBytes hi lo, lowByte_joinBytes hi lo, highByte_joinBytes hi lo⟩

/-! ### CALL and RET with no other agent acting (R138, R140) -/

section
variable {s t : State}

/-- CALL leaves on the stack what a push of PC leaves, and PC at the target. -/
theorem exec_call_a16_pushed (h : s.Quiet) (a : Addr) :
    ∃ t, exec (.call_a16 a) s = .next t ∧ t.pc = a ∧ s.Pushed s.pc t := by
  obtain ⟨t, hpush, hquiet, hsp, hlow, hhigh⟩ := push16_pushed h s.pc
  refine ⟨(t.setPc a).returning .ok, (exec_instr (.call a) s).trans ?_, rfl, hquiet, hsp, hlow, hhigh⟩
  rw [runOperation, callBus, hpush, Bus.andThen_ok, finish_ok]

/-- RET takes PC from what was pushed, and SP back to where it was before the push. -/
theorem exec_ret_of_pushed {v : Addr} (h : s.Pushed v t) : ∃ u, exec .ret t = .next u ∧ u.pc = v ∧ u.sp = s.sp := by
  obtain ⟨u, hpop, hsp⟩ := pop16_of_pushed h
  refine ⟨(u.setPc v).returning .ok, (exec_instr .ret t).trans ?_, rfl, hsp⟩
  rw [runOperation, returnBus, hpop, Bus.andThen_ok, finish_ok]

end

/-! ### The encodings (R58, R61) -/

theorem encode_rowPush (p : Pair) : encode (rowPush p) = [opcodeByte 3 (2 * p.field) 5] := by
  cases p <;> rfl

theorem encode_rowPop (p : Pair) : encode (rowPop p) = [opcodeByte 3 (2 * p.field) 1] := by
  cases p <;> rfl

/-! ### The obligations

In a namespace of their own: `pushPair` and `popPair` of the machine are the meanings of the rows. -/

namespace Stack

/-- Settles O31: two writes in order below SP; where the bus breaks at the second, the first is in the record. -/
theorem pushPair : Obligations.PushPair :=
  ⟨fun _ p hup => exec_rowPush hup p, fun s p => brokenBusIsAResourceFault (.push p) s, encode_rowPush⟩

/-- Settles O32: the two bytes read are the halves of one word, which is written to the pair the reads left as it was. -/
theorem popPair : Obligations.PopPair := by
  refine ⟨fun s lo hi hup hlo hhi => ?_, fun s p => brokenBusIsAResourceFault (.pop p) s, encode_rowPop⟩
  obtain ⟨v, rfl, rfl⟩ := exists_eq_halves hi lo
  have hregs : ((s.afterRead s.sp).afterRead (s.sp + 1)).regs = s.regs := by simp
  rw [← hregs]
  exact ⟨exec_rowPop hup hlo hhi .bc, exec_rowPop hup hlo hhi .de, exec_rowPop hup hlo hhi .hl, exec_rowPop hup hlo hhi .af⟩

/-- Settles O37: a call pushes the address after it and goes to the target; the return pops what was pushed. -/
theorem returnComesBackToTheCall : Obligations.ReturnComesBackToTheCall := by
  intro s a h
  obtain ⟨t, hcall, hpc, hpushed⟩ := exec_call_a16_pushed h a
  obtain ⟨u, hret, hback, hsp⟩ := exec_ret_of_pushed hpushed
  exact ⟨t, u, hcall, hpc, hret, hback, hsp⟩

end Stack

end Sys2Proof.Machine
end

section
/-! ## Control transfer

A jump writes PC and nothing else. CALL and RST are one push of PC, and RET one pop of it, with PC written after the accesses.
The conditional forms are the unconditional ones where the condition holds, and end at once with Ok where it does not. -/

namespace Sys2Proof.Machine

/-! ### Jumps (R133 to R137) -/

/-- Taken or not, a conditional jump writes PC: the target, or what PC was. -/
theorem jumpIf_eq (cc : Cond) (target : Addr) (s : State) :
    jumpIf cc target s = .next ((s.setPc (if s.cond cc then target else s.pc)).returning .ok) := by
  rw [jumpIf]
  cases s.cond cc with
  | false => rfl
  | true => rfl

theorem exec_jr_e8 (e : Byte) (s : State) :
    exec (.jr_e8 e) s = .next ((s.setPc (BitVec.ofInt 16 (s.pc.toNat + e.toInt))).returning .ok) := by
  rw [← add_signExtend8]
  exact exec_instr (.jr e) s

theorem exec_rowJpIf (cc : Cond) (a : Addr) (s : State) :
    exec (rowJpIf a cc) s = .next ((s.setPc (if s.cond cc then a else s.pc)).returning .ok) :=
  (exec_instr (.jpIf cc a) s).trans (jumpIf_eq cc a s)

theorem exec_rowJrIf (cc : Cond) (e : Byte) (s : State) : exec (rowJrIf e cc) s =
    .next ((s.setPc (if s.cond cc then BitVec.ofInt 16 (s.pc.toNat + e.toInt) else s.pc)).returning .ok) := by
  rw [← add_signExtend8]
  exact (exec_instr (.jrIf cc e) s).trans (jumpIf_eq cc _ s)

/-! ### Conditional uses of the bus (R139, R141) -/

section
variable {s : State} {cc : Cond}

theorem finish_taken (hc : s.cond cc = true) (i : Instr) (m : Bus Unit) :
    finish i s (if s.cond cc then m else .ok () s) = finish i s m := by
  rw [if_pos hc]

theorem finish_not_taken (hc : s.cond cc = false) (i : Instr) (m : Bus Unit) :
    finish i s (if s.cond cc then m else .ok () s) = .next (s.returning .ok) := by
  rw [if_neg (ne_true_of_eq_false hc), finish_ok]

theorem callIf_accesses_taken (hc : s.cond cc = true) (a : Addr) :
    (Operation.callIf cc a).resolve.accesses s = s.pushAccesses := if_pos hc

theorem retIf_accesses_taken (hc : s.cond cc = true) :
    (Operation.retIf cc).resolve.accesses s = s.popAccesses := if_pos hc

/-- A taken CALL cc makes the two writes of a push, and faults at the one that finds the bus broken. -/
theorem rowCallIf_faultsWhereBroken (hc : s.cond cc = true) (a : Addr) :
    FaultsWhereBroken (rowCallIf a cc) s s.pushAccesses := by
  rw [← callIf_accesses_taken hc a]
  exact brokenBusIsAResourceFault (.callIf cc a) s

/-- A taken RET cc makes the two reads of a pop, and faults at the one that finds the bus broken. -/
theorem rowRetIf_faultsWhereBroken (hc : s.cond cc = true) : FaultsWhereBroken (rowRetIf cc) s s.popAccesses := by
  rw [← retIf_accesses_taken hc]
  exact brokenBusIsAResourceFault (.retIf cc) s

end

/-! ### Calls and returns on a whole bus (R138, R140, R142) -/

section
variable {s : State} (h : s.BusUp 2)
include h

/-- CALL, CALL cc taken and RST differ in the target alone. -/
theorem finish_callBus (i : Instr) (target : Addr) : finish i s (callBus target s) =
    .next (((((s.afterWrite (s.sp - 1) (highByte s.pc)).afterWrite (s.sp - 2) (lowByte s.pc)).setSp (s.sp - 2)).setPc
      target).returning .ok) := by
  rw [callBus, push16_ok s _ h.whole, Bus.andThen_ok, finish_ok]

/-- RET and RET cc taken take PC from the two bytes read, the low one first. -/
theorem finish_returnBus (i : Instr) : finish i s (returnBus s) =
    .next (((((s.afterRead s.sp).afterRead (s.sp + 1)).setSp (s.sp + 2)).setPc
      (joinBytes ((s.afterRead s.sp).valueAt (s.sp + 1)) (s.valueAt s.sp))).returning .ok) := by
  rw [returnBus, pop16_ok s h.whole, Bus.andThen_ok, finish_ok]

end

/-! ### The encodings (R58, R61) -/

section
variable (cc : Cond) (a : Addr)

theorem encode_rowJpIf : encode (rowJpIf a cc) = [opcodeByte 3 cc.field 2, lowByte a, highByte a] := by
  cases cc <;> rfl

theorem encode_rowJrIf (e : Byte) : encode (rowJrIf e cc) = [opcodeByte 0 (4 + cc.field) 0, e] := by
  cases cc <;> rfl

theorem encode_rowCallIf : encode (rowCallIf a cc) = [opcodeByte 3 cc.field 4, lowByte a, highByte a] := by
  cases cc <;> rfl

theorem encode_rowRetIf : encode (rowRetIf cc) = [opcodeByte 3 cc.field 0] := by
  cases cc <;> rfl

theorem encode_rowRst (y : Fin 8) : encode (rowRst y) = [opcodeByte 3 y.val 7] := by
  fin_cases y <;> rfl

end

/-! ### The obligations -/

/-- Settles O34: each form writes PC alone, and a conditional form not taken writes PC back as it was. -/
theorem jumps : Obligations.Jumps :=
  ⟨fun _ => ⟨rfl, rfl, rfl, rfl⟩,
    fun s a e => ⟨exec_instr (.jp a) s, exec_instr .jpHl s, exec_jr_e8 e s⟩,
    fun s cc a e => ⟨exec_rowJpIf cc a s, exec_rowJrIf cc e s⟩,
    fun cc a e => ⟨rfl, rfl, rfl, encode_rowJpIf cc a, encode_rowJrIf cc e⟩⟩

/-- Settles O35: every call that happens is one push of PC with PC then written; one not taken ends at once. -/
theorem callsAndRestarts : Obligations.CallsAndRestarts :=
  ⟨fun s a hup => (exec_instr (.call a) s).trans (finish_callBus hup _ a),
    fun s cc a hc hup =>
      (exec_instr (.callIf cc a) s).trans ((finish_taken hc _ (callBus a s)).trans (finish_callBus hup _ a)),
    fun s cc a hc => (exec_instr (.callIf cc a) s).trans (finish_not_taken hc _ (callBus a s)),
    fun s y hup => (exec_instr (.rst y) s).trans (finish_callBus hup _ (BitVec.ofNat 16 (8 * y.val))),
    fun s _ a y => ⟨brokenBusIsAResourceFault (.call a) s, brokenBusIsAResourceFault (.rst y) s,
      fun hc => rowCallIf_faultsWhereBroken hc a⟩,
    fun cc a y => ⟨rfl, encode_rowCallIf cc a, encode_rowRst y⟩⟩

/-- Settles O36: every return that happens is one pop, with PC then written; one not taken ends at once. -/
theorem returns : Obligations.Returns := by
  refine ⟨fun s lo hi hup hlo hhi => ?_,
    fun s cc hc => (exec_instr (.retIf cc) s).trans (finish_not_taken hc _ (returnBus s)),
    fun s _ => ⟨brokenBusIsAResourceFault .ret s, rowRetIf_faultsWhereBroken⟩,
    fun cc => ⟨rfl, encode_rowRetIf cc⟩⟩
  subst hlo hhi
  exact ⟨(exec_instr .ret s).trans (finish_returnBus hup _),
    fun cc hc => (exec_instr (.retIf cc) s).trans ((finish_taken hc _ (returnBus s)).trans (finish_returnBus hup _))⟩

end Sys2Proof.Machine
end

section
/-! ## Rotates, shifts and bit operations

Every rotate and shift but SWAP moves the byte by one bit through a bit put in at the free end: the result is a multiple of a power
of two joined with a byte below that power, which is their sum. SWAP joins two nibbles in the same way. The instructions then
differ in the operand alone: a register, or the byte at (HL) read and written back. -/

namespace Sys2Proof.Machine

/-! ### Bits and parts of a byte, as numbers (R9, R10) -/

theorem bitByte_toNat (c : Bool) : (bitByte c).toNat = b2i c := by
  cases c <;> rfl

theorem bitByte_false : bitByte false = 0#8 := rfl

theorem b2i_le_one (c : Bool) : b2i c ≤ 1 := by
  cases c <;> decide

theorem b2i_decide_eq_one {n : Nat} (h : n < 2) : b2i (decide (n = 1)) = n := by
  interval_cases n <;> rfl

/-- A multiple of a power of two, joined with a byte below that power, is their sum. -/
theorem or_toNat_of_parts {hi lo : Byte} {k q : Nat} (hhi : hi.toNat = 2 ^ k * q) (hlo : lo.toNat < 2 ^ k) :
    (hi ||| lo).toNat = hi.toNat + lo.toNat := by
  rw [BitVec.toNat_or, hhi, Nat.two_pow_add_eq_or_of_lt hlo]

section
variable (v : Byte)

theorem getLsbD_seven : v.getLsbD 7 = decide (v.toNat / 128 = 1) := by
  have hmod : v.toNat / 2 ^ 7 % 2 = v.toNat / 128 := by omega
  rw [BitVec.getLsbD, Nat.testBit_eq_decide_div_mod_eq, hmod]

theorem getLsbD_zero : v.getLsbD 0 = decide (v.toNat % 2 = 1) := by
  rw [BitVec.getLsbD, Nat.testBit_zero]

theorem b2i_getLsbD_seven : b2i (v.getLsbD 7) = v.toNat / 128 := by
  rw [getLsbD_seven, b2i_decide_eq_one (by omega)]

theorem b2i_getLsbD_zero : b2i (v.getLsbD 0) = v.toNat % 2 := by
  rw [getLsbD_zero, b2i_decide_eq_one (by omega)]

theorem shiftLeft_toNat (k : Nat) : (v <<< k).toNat = 2 ^ k * v.toNat % 256 := by
  rw [BitVec.toNat_shiftLeft, Nat.shiftLeft_eq, Nat.mul_comm]

theorem ushiftRight_toNat (k : Nat) : (v >>> k).toNat = v.toNat / 2 ^ k := by
  rw [BitVec.toNat_ushiftRight, Nat.shiftRight_eq_div_pow]

/-! ### The results (R144 to R156) -/

/-- The bit put in at the low end counts 1 (R146, R151). -/
theorem rotateLeftCarry_out_toNat (c : Bool) : (rotateLeftCarry v c).out.toNat = 2 * v.toNat % 256 + b2i c := by
  have hhi : (v <<< 1).toNat = 2 ^ 1 * (v.toNat % 128) := by
    rw [shiftLeft_toNat]
    omega
  have hlo : (bitByte c).toNat < 2 ^ 1 := by
    rw [bitByte_toNat]
    exact Nat.lt_succ_of_le (b2i_le_one c)
  rw [rotateLeftCarry, or_toNat_of_parts hhi hlo, shiftLeft_toNat, bitByte_toNat]
  rfl

/-- The bit put in at the high end counts 128 (R147, R152). -/
theorem rotateRightCarry_out_toNat (c : Bool) : (rotateRightCarry v c).out.toNat = v.toNat / 2 + 128 * b2i c := by
  have hhi : (bitByte c <<< 7).toNat = 2 ^ 7 * b2i c := by
    have hc := b2i_le_one c
    rw [shiftLeft_toNat, bitByte_toNat]
    omega
  have hlo : (v >>> 1).toNat < 2 ^ 7 := by
    rw [ushiftRight_toNat]
    omega
  rw [rotateRightCarry, BitVec.or_comm, or_toNat_of_parts hhi hlo, hhi, ushiftRight_toNat, Nat.add_comm]
  rfl

/-- SLA is the rotate that puts 0 in (R153). -/
theorem shiftLeft_eq_rotateLeftCarry : shiftLeft v = rotateLeftCarry v false := by
  rw [shiftLeft, rotateLeftCarry, bitByte_false, BitVec.or_zero]

/-- SRL is the rotate that puts 0 in (R156). -/
theorem shiftRightLogic_eq_rotateRightCarry : shiftRightLogic v = rotateRightCarry v false := by
  rw [shiftRightLogic, rotateRightCarry, bitByte_false, BitVec.zero_shiftLeft, BitVec.or_zero]

/-- SRA is the rotate that puts bit 7 in where it was (R154). -/
theorem shiftRightArith_eq_rotateRightCarry : shiftRightArith v = rotateRightCarry v (v.getLsbD 7) := by
  have hbit : v &&& (0x80 : Byte) = bitByte (v.getLsbD 7) <<< 7 := by
    rw [show (0x80 : Byte) = BitVec.twoPow 8 7 from rfl, BitVec.and_twoPow]
    cases v.getLsbD 7 <;> rfl
  rw [shiftRightArith, rotateRightCarry, hbit]

theorem rotateLeft_out_toNat : (rotateLeft v).out.toNat = 2 * v.toNat % 256 + v.toNat / 128 := by
  rw [← b2i_getLsbD_seven]
  exact rotateLeftCarry_out_toNat v (v.getLsbD 7)

theorem rotateRight_out_toNat : (rotateRight v).out.toNat = v.toNat / 2 + 128 * (v.toNat % 2) := by
  rw [← b2i_getLsbD_zero]
  exact rotateRightCarry_out_toNat v (v.getLsbD 0)

theorem shiftLeft_out_toNat : (shiftLeft v).out.toNat = 2 * v.toNat % 256 := by
  rw [shiftLeft_eq_rotateLeftCarry]
  exact rotateLeftCarry_out_toNat v false

theorem shiftRightLogic_out_toNat : (shiftRightLogic v).out.toNat = v.toNat / 2 := by
  rw [shiftRightLogic_eq_rotateRightCarry]
  exact rotateRightCarry_out_toNat v false

theorem shiftRightArith_out_toNat : (shiftRightArith v).out.toNat = v.toNat / 2 + 128 * (v.toNat / 128) := by
  rw [shiftRightArith_eq_rotateRightCarry, rotateRightCarry_out_toNat, b2i_getLsbD_seven]

/-- The nibbles change places (R155). -/
theorem swapNibbles_out_toNat : (swapNibbles v).out.toNat = 16 * (v.toNat % 16) + v.toNat / 16 := by
  have hhi : (v <<< 4).toNat = 2 ^ 4 * (v.toNat % 16) := by
    rw [shiftLeft_toNat]
    omega
  have hlo : (v >>> 4).toNat < 2 ^ 4 := by
    rw [ushiftRight_toNat]
    omega
  rw [swapNibbles, or_toNat_of_parts hhi hlo, hhi, ushiftRight_toNat]
  rfl

/-- The left forms shift bit 7 out. -/
theorem rotShifted_carry_of_left (c : Bool) :
    ∀ k ∈ [RotOp.rlc, .rl, .sla], (rotShifted k v c).carry = decide (v.toNat / 128 = 1) := by
  intro k hk
  fin_cases hk <;> exact getLsbD_seven v

/-- The right forms shift bit 0 out. -/
theorem rotShifted_carry_of_right (c : Bool) :
    ∀ k ∈ [RotOp.rrc, .rr, .sra, .srl], (rotShifted k v c).carry = decide (v.toNat % 2 = 1) := by
  intro k hk
  fin_cases hk <;> exact getLsbD_zero v

/-- A rotate to the left through C, as the exact sum narrowed. -/
theorem rotateLeftCarry_eq (c : Bool) : rotateLeftCarry v c =
    { out := BitVec.ofNat 8 (2 * v.toNat + b2i c), carry := decide (v.toNat / 128 = 1) } := by
  have hout : (rotateLeftCarry v c).out = BitVec.ofNat 8 (2 * v.toNat + b2i c) := by
    have hc := b2i_le_one c
    apply BitVec.eq_of_toNat_eq
    rw [rotateLeftCarry_out_toNat, BitVec.toNat_ofNat]
    omega
  rw [← hout, ← getLsbD_seven]
  rfl

/-- A rotate to the right through C, as the exact sum. -/
theorem rotateRightCarry_eq (c : Bool) : rotateRightCarry v c =
    { out := BitVec.ofNat 8 (v.toNat / 2 + 128 * b2i c), carry := decide (v.toNat % 2 = 1) } := by
  rw [← rotateRightCarry_out_toNat, BitVec.ofNat_toNat, BitVec.setWidth_eq, ← getLsbD_zero]
  rfl

theorem rotateLeft_eq : rotateLeft v =
    { out := BitVec.ofNat 8 (2 * v.toNat + v.toNat / 128), carry := decide (v.toNat / 128 = 1) } := by
  have h := rotateLeftCarry_eq v (v.getLsbD 7)
  rw [b2i_getLsbD_seven] at h
  exact h

theorem rotateRight_eq : rotateRight v =
    { out := BitVec.ofNat 8 (v.toNat / 2 + 128 * (v.toNat % 2)), carry := decide (v.toNat % 2 = 1) } := by
  have h := rotateRightCarry_eq v (v.getLsbD 0)
  rw [b2i_getLsbD_zero] at h
  exact h

end

/-! ### The rotates of A (R144 to R147) -/

/-- A and C take the result of the rotate; Z, N and H are cleared whatever it is. -/
theorem exec_accRot {s : State} {k : AccRotOp} {x : Shifted} (h : accRotShifted k s.regs.a s.flags.c = x) :
    exec (Operation.accRot k).instr s = .next { s with
      regs := { s.regs with a := x.out }
      flags := { z := false, n := false, h := false, c := x.carry }, lastOutcome := some .ok } := by
  subst h
  exact exec_instr (.accRot k) s

/-! ### The byte at (HL) (R148) -/

section
variable {s : State}

/-- BIT b,(HL): one read, then the flags from the byte, which the read did not touch. -/
theorem exec_rowBit_mHL (h : s.BusUp 1) (b : Fin 8) : exec (rowBit b .mHL) s =
    .next (((s.afterRead s.hl).setFlags (bitFlags b (s.valueAt s.hl) s.flags)).returning .ok) := by
  refine (exec_instr (.bit b .mHL) s).trans ?_
  rw [runOperation, testBitMHL, withMHL_ok s _ h.first, State.afterRead_flags, finish_ok]

/-- RES and SET of (HL): a read of (HL) and a write back that find the bus whole, and no flag. -/
theorem finish_rewriteMem (i : Instr) (f : Byte → Byte) (h : s.BusUp 2) : finish i s (rewriteMem f s) =
    .next (((s.afterRead s.hl).afterWrite s.hl (f (s.valueAt s.hl))).returning .ok) := by
  rw [rewriteMem, modifyMHL_ok s _ _ h.whole, finish_ok]

end

/-! ### The encodings (R56, R57, R61, R65) -/

theorem encode_rowRot (k : RotOp) (o : Operand8) : encode (rowRot k o) = [0xCB, opcodeByte 0 k.field o.field] := by
  cases o with
  | reg r => cases k <;> cases r <;> rfl
  | mHL => cases k <;> rfl

/-- The three rows that name a bit differ in the field x alone. -/
theorem encode_bitRows (b : Fin 8) (o : Operand8) :
    encode (rowBit b o) = [0xCB, opcodeByte 1 b.val o.field] ∧ encode (rowRes b o) = [0xCB, opcodeByte 2 b.val o.field] ∧
      encode (rowSet b o) = [0xCB, opcodeByte 3 b.val o.field] := by
  cases o with
  | reg r => fin_cases b <;> cases r <;> exact ⟨rfl, rfl, rfl⟩
  | mHL => fin_cases b <;> exact ⟨rfl, rfl, rfl⟩

/-! ### The obligations -/

/-- Settles O39: each row by its rotate in exact arithmetic. -/
theorem accumulatorRotates : Obligations.AccumulatorRotates :=
  ⟨fun s => ⟨exec_accRot (k := .rlca) (rotateLeft_eq s.regs.a), exec_accRot (k := .rrca) (rotateRight_eq s.regs.a),
      exec_accRot (k := .rla) (rotateLeftCarry_eq s.regs.a s.flags.c),
      exec_accRot (k := .rra) (rotateRightCarry_eq s.regs.a s.flags.c)⟩,
    rfl, rfl, rfl, rfl⟩

/-- Settles O40: the register forms by their shared operation, the (HL) forms by the read and the write back of one address. -/
theorem prefixedRotatesAndShifts : Obligations.PrefixedRotatesAndShifts := by
  refine ⟨fun s k r out hout => ?_, fun s k v out hup hv hout => ?_,
    fun s k => brokenBusIsAResourceFault (.rot k .mHL) s, encode_rowRot⟩
  · subst hout
    exact exec_instr (.rot k (.reg r)) s
  · subst hv hout
    exact (exec_instr (.rot k .mHL) s).trans (finish_modifyMem _ (rot8 k) hup)

/-- Settles O41: BIT writes the flags alone; RES and SET write the operand back, whatever the bit was. -/
theorem bitOperations : Obligations.BitOperations := by
  refine ⟨fun s b r => ⟨exec_instr (.bit b (.reg r)) s, exec_instr (.res b (.reg r)) s, exec_instr (.set b (.reg r)) s⟩,
    fun s b hup => exec_rowBit_mHL hup b, fun s b v hup hv => ?_,
    fun s b => ⟨brokenBusIsAResourceFault (.bit b .mHL) s, brokenBusIsAResourceFault (.res b .mHL) s,
      brokenBusIsAResourceFault (.set b .mHL) s⟩,
    encode_bitRows⟩
  subst hv
  exact ⟨(exec_instr (.res b .mHL) s).trans (finish_rewriteMem _ (resetBit b) hup),
    (exec_instr (.set b .mHL) s).trans (finish_rewriteMem _ (setBit b) hup)⟩

/-- Settles O38: each operation is a join of two parts of a byte, or a rotate through a given bit. -/
theorem rotateAndShiftResults : Obligations.RotateAndShiftResults :=
  fun v c => ⟨rotateLeft_out_toNat v, rotateRight_out_toNat v, rotateLeftCarry_out_toNat v c,
    rotateRightCarry_out_toNat v c, shiftLeft_out_toNat v, shiftRightArith_out_toNat v, swapNibbles_out_toNat v,
    shiftRightLogic_out_toNat v, rotShifted_carry_of_left v c, rotShifted_carry_of_right v c, rfl⟩

end Sys2Proof.Machine
end

section
/-! ## The opcodes without an effect of their own, every step answers, and the program image

Every instruction is the row of an operation, so that what is said once of every operation holds of every instruction, decoded
or not. -/

namespace Sys2Proof.Machine

/-! ### Every instruction answers (R75, R178) -/

section
variable {s t : State}

theorem exists_operation_of_wellFormed {sl : StopLen} {i : Instr} (h : i.wellFormed sl = true) :
    ∃ op : Operation, op.instr = i := by
  obtain ⟨o, bs, -, hi⟩ := Instr.readsBack h
  exact ⟨decodeOperation sl o (bs.getD 0 0) (bs.getD 1 0), hi⟩

/-- Beside what the decoder can answer there are the bare CB byte and a STOP whose padding byte does not fit STOP_LEN. -/
theorem exists_operation (i : Instr) : ∃ op : Operation, op.instr = i := by
  cases i with
  | prefix_CB sub => exact ⟨.prefixCb sub, rfl⟩
  | stop pad => exact ⟨.stop pad, rfl⟩
  | _ => exact exists_operation_of_wellFormed (sl := .two) rfl

theorem exec_ends (i : Instr) (s : State) : ∃ plan, Result.Ends i s (exec i s) plan := by
  obtain ⟨op, rfl⟩ := exists_operation i
  exact ⟨_, exec_instr_ends op s⟩

theorem exec_eq_next (i : Instr) (s : State) : ∃ t, exec i s = .next t := by
  obtain ⟨_, hends⟩ := exec_ends i s
  obtain ⟨_, t, _, _, ht⟩ := hends.reports
  exact ⟨t, ht⟩

theorem step_eq_next (s : State) : ∃ t, step s = .next t := by
  cases hr : s.runState with
  | faulted o => exact ⟨_, step_of_faulted hr⟩
  | running =>
    cases hs : s.admitOne.stopRequested with
    | true => exact ⟨_, step_of_stopRequested hr hs⟩
    | false =>
      obtain ⟨_, t, _, _, ht⟩ := step_reports hr hs
      exact ⟨t, ht⟩

/-! ### Unimplemented (R170) -/

/-- Only the report of an unwired opcode is Unimplemented, and it is all that instruction does. -/
theorem eq_raiseUnimplemented_of_exec {i : Instr} {op : Byte} (h : exec i s = .next t)
    (ho : t.lastOutcome = some (.unimplemented op)) : op ∈ unwiredOpcodes ∧ t = s.raiseUnimplemented op := by
  obtain ⟨plan, hends⟩ := exec_ends i s
  rw [h] at hends
  generalize hr : Host.Outcome.next t = r at hends
  cases hends with
  | finish _ =>
    rcases finish_outcome hr with hok | ⟨_, _, hfault⟩
    · exact nomatch ho.symm.trans hok
    · exact nomatch ho.symm.trans hfault
  | unimplemented hop =>
    obtain rfl := Host.Outcome.next.inj hr
    obtain rfl := StepOutcome.unimplemented.inj (Option.some.inj ho)
    exact ⟨hop, rfl⟩
  | fatal =>
    obtain rfl := Host.Outcome.next.inj hr
    exact nomatch ho

/-- Between `s` and `t` the engine's run state, registers, flags and SP stayed; of PC and the bus nothing is said. -/
structure State.RegistersKept (s t : State) : Prop where
  runState : t.runState = s.runState
  regs : t.regs = s.regs
  flags : t.flags = s.flags
  sp : t.sp = s.sp

theorem State.RegistersKept.admitOne (h : s.RegistersKept t) : s.RegistersKept t.admitOne where
  runState := t.admit_runState.trans h.runState
  regs := t.admit_regs.trans h.regs
  flags := t.admit_flags.trans h.flags
  sp := t.admit_sp.trans h.sp

/-- A fetch only reads (R71 to R73). -/
theorem registersKept_of_fetch_ok {d : Descriptor} (h : fetch s = .ok d t) : s.RegistersKept t := by
  obtain ⟨op, u, bs, hop, hbs⟩ := exists_of_fetch_ok h
  have hagents : ∀ v, s.RegistersKept v → s.RegistersKept v.admitOne := fun _ => State.RegistersKept.admitOne
  have hreads : ∀ v a, s.RegistersKept v → s.RegistersKept (v.afterAgentRead .engine a) :=
    fun _ _ hv => ⟨hv.runState, hv.regs, hv.flags, hv.sp⟩
  have hu := busRead_leaves s hagents hreads s.pc ⟨rfl, rfl, rfl, rfl⟩
  rw [hop] at hu
  have ht := busReadBytes_leaves hagents hreads (s.pc + 1) (extraBytes s.params.stopLen op) hu
  rwa [hbs] at ht

/-- A step that reports Unimplemented ran an unwired opcode: it fetched it and advanced PC, and that is all. -/
theorem exists_fetch_of_step_unimplemented {op : Byte} (h : step s = .next t)
    (ho : t.lastOutcome = some (.unimplemented op)) :
    s.runState = .running ∧ op ∈ unwiredOpcodes ∧
      ∃ d u, fetch s.admitOne.markStarted = .ok d u ∧ t = (u.advance d).raiseUnimplemented op := by
  cases hr : s.runState with
  | faulted o =>
    obtain rfl := Host.Outcome.next.inj ((step_of_faulted hr).symm.trans h)
    exact nomatch ho
  | running =>
    cases hs : s.admitOne.stopRequested with
    | true =>
      obtain rfl := Host.Outcome.next.inj ((step_of_stopRequested hr hs).symm.trans h)
      exact nomatch ho
    | false =>
      cases hf : fetch s.admitOne.markStarted with
      | broken o u =>
        obtain rfl := Host.Outcome.next.inj ((step_of_fetch_broken hr hs hf).symm.trans h)
        exact nomatch ho
      | ok d u =>
        obtain ⟨hop, ht⟩ := eq_raiseUnimplemented_of_exec ((step_of_fetch_ok hr hs hf).symm.trans h) ho
        exact ⟨rfl, hop, d, u, rfl, ht⟩

end

/-! ### The sentinels (R62, R166) -/

theorem encode_rowIllegal (h : Hole) : encode (rowIllegal h) = [(rowIllegal h).opcode] := by cases h <;> rfl

theorem exists_hole_of_mem {op : Byte} (h : op ∈ holeOpcodes) : ∃ x, (rowIllegal x).opcode = op := by
  have e : holeOpcodes =
    List.map (fun x => (rowIllegal x).opcode) [.d3, .db, .dd, .e3, .e4, .eb, .ec, .ed, .f4, .fc, .fd] := rfl
  rw [e, List.mem_map] at h
  obtain ⟨x, -, hx⟩ := h
  exact ⟨x, hx⟩

/-! ### Loading bytes, and the storage of a list of cells (R184, R185) -/

/-- Bytes loaded from `a` upward are read at their distance from `a`: they fit on the bus, so none is written over. -/
theorem Memory.read_load (m : Memory) (a b : Addr) {bytes : List Byte} (h : bytes.length ≤ 0x10000) :
    (m.load a bytes).read b = bytes[(b - a).toNat]?.getD (m.read b) := by
  induction bytes generalizing m a with
  | nil => rfl
  | cons v rest ih =>
    rw [List.length_cons] at h
    rw [Memory.load, ih _ _ (by omega)]
    by_cases hb : b = a
    · subst hb
      have hlast : rest.length ≤ (b - (b + 1)).toNat := by bv_omega
      rw [List.getElem?_eq_none hlast, Option.getD_none, Memory.read_write_same, BitVec.sub_self]
      rfl
    · have hnext : (b - a).toNat = (b - (a + 1)).toNat + 1 := by bv_omega
      rw [hnext, List.getElem?_cons_succ, Memory.read_write_other m v hb]

/-- The cells are written from the last to the first, so the first for an address stays. -/
theorem Memory.read_ofCells (cells : List (Addr × Byte)) (a : Addr) :
    (Memory.ofCells cells).read a = (cells.find? fun cell => cell.1 == a).elim Memory.unlisted Prod.snd := by
  induction cells with
  | nil => rfl
  | cons cell rest ih =>
    obtain ⟨k, v⟩ := cell
    rw [Memory.ofCells]
    by_cases hk : k = a
    · subst hk
      rw [Memory.read_write_same, List.find?_cons_of_pos (by simp)]
      rfl
    · rw [Memory.read_write_other _ v (Ne.symm hk), List.find?_cons_of_neg (by simpa using hk), ih]

theorem mem_of_construct {c : Construction} {s : State} (h : construct c = some s) :
    c.image.length ≤ 0x10000 ∧ s.mem = (Memory.ofCells c.initMem).load 0 c.image := by
  unfold construct at h
  split at h
  · next hle =>
    obtain rfl := Option.some.inj h
    exact ⟨hle, rfl⟩
  · exact nomatch h

theorem isSome_construct (c : Construction) : (construct c).isSome = decide (c.image.length ≤ 0x10000) := by
  unfold construct
  split
  · next hle => exact (decide_eq_true hle).symm
  · next hlt => exact (decide_eq_false hlt).symm

/-! ### The obligations

The last in a namespace of its own: `unwiredOpcodes` of the machine is the list of those bytes. -/

/-- Settles O7: the image is read at its addresses, and INIT_MEM, cell by cell, past its end. -/
theorem programImage : Obligations.ProgramImage := by
  refine ⟨isSome_construct, fun c s h => ?_, fun cells a => ?_⟩
  · obtain ⟨hle, hmem⟩ := mem_of_construct h
    have hread (b : Addr) : s.mem.read b = c.image[b.toNat]?.getD ((Memory.ofCells c.initMem).read b) := by
      rw [hmem, Memory.read_load _ 0 b hle, sub_zero]
    refine ⟨fun i hi => ?_, fun a ha => ?_⟩
    · rw [hread, BitVec.toNat_ofNat, Nat.mod_eq_of_lt (hi.trans_le hle), List.getElem?_eq_getElem hi, Option.getD_some]
    · rw [hread, List.getElem?_eq_none ha, Option.getD_none]
  · rw [Memory.read_ofCells]
    cases cells.find? fun cell => cell.1 == a with
    | none => rfl
    | some cell => rfl

/-- Settles O46: an instruction is the row of an operation, which ends in an outcome; a step ends before its fetch or does so. -/
theorem nothingStopsTheMachine : Obligations.NothingStopsTheMachine := ⟨exec_eq_next, step_eq_next⟩

/-- Settles O54: the step fetched an unwired opcode and did nothing else, and a fetch only reads. -/
theorem unimplementedIsRecoverable : Obligations.UnimplementedIsRecoverable := by
  intro s t op hstep ho
  obtain ⟨hrun, hop, d, u, hfetch, rfl⟩ := exists_fetch_of_step_unimplemented hstep ho
  obtain ⟨hstate, hregs, hflags, hsp⟩ := registersKept_of_fetch_ok hfetch
  exact ⟨hop, hstate.trans (s.admit_runState.trans hrun), hregs.trans s.admit_regs, hflags.trans s.admit_flags,
    hsp.trans s.admit_sp⟩

/-- Settles O43: the row of NOP ends with Ok at once. -/
theorem noOperation : Obligations.NoOperation := ⟨exec_instr .nop, rfl⟩

/-- Settles O45: the eleven rows report Fatal with their one byte, and those bytes are the eleven holes. -/
theorem sentinelOpcodes : Obligations.SentinelOpcodes := by
  refine ⟨fun s h => ⟨_, opcode_rowIllegal_mem h, encode_rowIllegal h, exec_instr (.illegal h) s⟩, fun op hop => ?_⟩
  obtain ⟨x, rfl⟩ := exists_hole_of_mem hop
  exact ⟨x, encode_rowIllegal x⟩

namespace System

/-- Settles O44: each row reports its opcode, STOP whatever its padding byte. -/
theorem unwiredOpcodes : Obligations.UnwiredOpcodes :=
  ⟨fun s pad => ⟨exec_instr .halt s, exec_instr (.stop pad) s, exec_instr .di s, exec_instr .ei s, exec_instr .reti s⟩,
    fun _ => ⟨rfl, rfl, rfl, rfl, rfl, rfl⟩⟩

end System

end Sys2Proof.Machine
end

section
/-! ## Observers do not disturb

A read of another agent goes into the record and nowhere else, and nothing the engine does looks at the record. So what is done
on a state and what is done on the same state without its observers agree but for the observers. That is so of each access of
the engine, goes over to what is put together from accesses, and so holds of every operation, of the fetch and of the step. -/

namespace Sys2Proof.Machine

/-! ### The other agents (R43, R45) -/

theorem State.unobserved_unobserved (s : State) : s.unobserved.unobserved = s.unobserved := by
  simp [State.unobserved, Function.comp_def, List.filter_filter]

section
variable {s t : State}

/-- The write of an agent is a change of the storage alone. -/
theorem State.afterAgentWrite_unobserved_congr (h : s.unobserved = t.unobserved) (g : Agent) (a : Addr) (v : Byte) :
    (s.afterAgentWrite g a v).unobserved = (t.afterAgentWrite g a v).unobserved :=
  congrArg (fun u => { u with mem := u.mem.write a v }) h

theorem State.applyExt_unobserved_congr (h : s.unobserved = t.unobserved) (e : ExtEvent) :
    (s.applyExt e).unobserved = (t.applyExt e).unobserved := by
  cases e with
  | rendererRead _ | hostRead _ => exact h
  | hostWrite a v => exact State.afterAgentWrite_unobserved_congr h .host a v
  | rendererWrite a v =>
    have hparams : s.params = t.params := (congrArg State.params h :)
    simp only [State.applyExt, hparams]
    split
    · exact State.afterAgentWrite_unobserved_congr h .renderer a v
    · exact h
  | requestStop => exact congrArg (fun u => { u with stopRequested := true }) h
  | clearStop => exact congrArg (fun u => { u with stopRequested := false }) h
  | breakBus => exact congrArg (fun u => { u with busBroken := true }) h

/-- A read goes into the record and nowhere else. -/
theorem State.applyExt_unobserved_of_isRead {e : ExtEvent} (he : e.isRead = true) (s : State) :
    (s.applyExt e).unobserved = s.unobserved := by
  cases e with
  | rendererRead _ | hostRead _ => rfl
  | rendererWrite _ _ | hostWrite _ _ | requestStop | clearStop | breakBus => exact absurd he Bool.false_ne_true

/-- A batch does the same without its reads. -/
theorem State.applyBatch_filter_unobserved (h : s.unobserved = t.unobserved) (l : List ExtEvent) :
    (s.applyBatch (l.filter fun e => !e.isRead)).unobserved = (t.applyBatch l).unobserved := by
  induction l generalizing s t with
  | nil => exact h
  | cons e rest ih =>
    cases he : e.isRead with
    | true =>
      rw [List.filter_cons_of_neg (by simp [he])]
      exact ih (h.trans (State.applyExt_unobserved_of_isRead he t).symm)
    | false =>
      rw [List.filter_cons_of_pos (by simp [he])]
      exact ih (State.applyExt_unobserved_congr h e)

theorem State.admitOne_unobserved (s : State) : s.unobserved.admitOne.unobserved = s.admitOne.unobserved := by
  cases hs : s.schedule with
  | nil =>
    have hnil : s.unobserved.schedule = [] := by simp [State.unobserved, hs]
    rw [s.admit_nil hs, s.unobserved.admit_nil hnil, s.unobserved_unobserved]
  | cons batch rest =>
    have hcons : s.unobserved.schedule = (batch.filter fun e => !e.isRead) ::
        rest.map fun batch => batch.filter fun e => !e.isRead := by simp [State.unobserved, hs]
    rw [State.admit_cons hs, State.admit_cons hcons]
    exact State.applyBatch_filter_unobserved (State.unobserved_unobserved { s with schedule := rest }) batch

end

/-! ### Uses of the bus -/

/-- A use of the bus with the state it ends in taken without its observers. -/
def Bus.unobserved {α : Type} : Bus α → Bus α
  | .ok v s => .ok v s.unobserved
  | .broken s => .broken s.unobserved

/-- A use of the bus that is the same, but for the observers, begun with or without them. -/
def Bus.IgnoresObservers {α : Type} (m : State → Bus α) : Prop :=
  ∀ s, (m s.unobserved).unobserved = (m s).unobserved

/-- Work that looks at no observer and leaves them: it can be done before or after they are taken away. -/
def State.IgnoresObservers (f : State → State) : Prop := ∀ s, f s.unobserved = (f s).unobserved

section
variable {α β : Type} {m : State → Bus α} {s t : State}

theorem Bus.IgnoresObservers.congr (hm : Bus.IgnoresObservers m) (h : s.unobserved = t.unobserved) :
    (m s).unobserved = (m t).unobserved := by
  rw [← hm s, ← hm t, h]

theorem Bus.exists_ok_of_unobserved_eq {b : Bus α} {v : α} (h : b.unobserved = (Bus.ok v t).unobserved) :
    ∃ u, b = .ok v u ∧ u.unobserved = t.unobserved := by
  cases b with
  | ok w u =>
    obtain ⟨rfl, hu⟩ := Bus.ok.inj h
    exact ⟨u, rfl, hu⟩
  | broken u => exact nomatch h

theorem Bus.exists_broken_of_unobserved_eq {b : Bus α} (h : b.unobserved = (Bus.broken t).unobserved) :
    ∃ u, b = .broken u ∧ u.unobserved = t.unobserved := by
  cases b with
  | ok w u => exact nomatch h
  | broken u => exact ⟨u, rfl, Bus.broken.inj h⟩

theorem Bus.ignoresObservers_ok (v : α) {f : State → State} (hf : State.IgnoresObservers f) :
    Bus.IgnoresObservers fun s => .ok v (f s) := fun s => by
  simp only [Bus.unobserved, hf s, State.unobserved_unobserved]

/-- What goes on after a use of the bus, on what that use left. -/
theorem Bus.andThen_unobserved_congr {b b' : Bus α} (h : b.unobserved = b'.unobserved) {k : α → State → Bus β}
    (hk : ∀ v, Bus.IgnoresObservers (k v)) : (b.andThen k).unobserved = (b'.andThen k).unobserved := by
  cases b' with
  | ok v t =>
    obtain ⟨u, rfl, hu⟩ := Bus.exists_ok_of_unobserved_eq h
    exact (hk v).congr hu
  | broken t =>
    obtain ⟨u, rfl, hu⟩ := Bus.exists_broken_of_unobserved_eq h
    exact congrArg Bus.broken hu

theorem Bus.andThen_registers_unobserved_congr {b b' : Bus α} (h : b.unobserved = b'.unobserved) {f : α → State → State}
    (hf : ∀ v, State.IgnoresObservers (f v)) :
    (b.andThen fun v t => .ok () (f v t)).unobserved = (b'.andThen fun v t => .ok () (f v t)).unobserved :=
  Bus.andThen_unobserved_congr h fun v => Bus.ignoresObservers_ok () (hf v)

theorem busRead_ignoresObservers (a : Addr) : Bus.IgnoresObservers (busRead a) := by
  intro s
  have hs := s.admitOne_unobserved
  have hbus : s.unobserved.admitOne.busBroken = s.admitOne.busBroken := (congrArg State.busBroken hs :)
  have hmem : s.unobserved.admitOne.mem = s.admitOne.mem := (congrArg State.mem hs :)
  cases h : s.admitOne.busBroken with
  | true =>
    rw [busRead_broken _ _ h, busRead_broken _ _ (hbus.trans h)]
    exact congrArg Bus.broken hs
  | false =>
    rw [busRead_ok _ _ h, busRead_ok _ _ (hbus.trans h), State.valueAt, State.valueAt, hmem]
    exact congrArg (Bus.ok _) hs

theorem busWrite_ignoresObservers (a : Addr) (v : Byte) : Bus.IgnoresObservers (busWrite a v) := by
  intro s
  have hs := s.admitOne_unobserved
  have hbus : s.unobserved.admitOne.busBroken = s.admitOne.busBroken := (congrArg State.busBroken hs :)
  cases h : s.admitOne.busBroken with
  | true =>
    rw [busWrite_broken _ _ _ h, busWrite_broken _ _ _ (hbus.trans h)]
    exact congrArg Bus.broken hs
  | false =>
    rw [busWrite_ok _ _ _ h, busWrite_ok _ _ _ (hbus.trans h)]
    exact congrArg (Bus.ok ()) (State.afterAgentWrite_unobserved_congr hs .engine a v)

theorem busReadBytes_ignoresObservers (a : Addr) (n : Nat) : Bus.IgnoresObservers (busReadBytes a n) := by
  induction n generalizing a with
  | zero => exact Bus.ignoresObservers_ok [] fun _ => rfl
  | succ n ih =>
    exact fun s => Bus.andThen_unobserved_congr (busRead_ignoresObservers a s) fun v t =>
      Bus.andThen_unobserved_congr (ih (a + 1) t) fun vs => Bus.ignoresObservers_ok (v :: vs) fun _ => rfl

theorem busWrite16_ignoresObservers (a v : Addr) : Bus.IgnoresObservers (busWrite16 a v) := fun s =>
  Bus.andThen_unobserved_congr (busWrite_ignoresObservers a (lowByte v) s) fun _ => busWrite_ignoresObservers _ _

theorem push16_ignoresObservers (v : Addr) : Bus.IgnoresObservers (push16 v) := fun s =>
  Bus.andThen_unobserved_congr (busWrite_ignoresObservers (s.sp - 1) (highByte v) (s.setSp (s.sp - 1))) fun _ t =>
    busWrite_ignoresObservers (t.sp - 1) (lowByte v) (t.setSp (t.sp - 1))

theorem pop16_ignoresObservers : Bus.IgnoresObservers pop16 := fun s =>
  Bus.andThen_unobserved_congr (busRead_ignoresObservers s.sp s) fun _ t =>
    Bus.andThen_unobserved_congr (busRead_ignoresObservers (t.sp + 1) (t.setSp (t.sp + 1))) fun _ =>
      Bus.ignoresObservers_ok _ fun _ => rfl

theorem withMHL_ignoresObservers {k : Byte → State → State} (hk : ∀ v, State.IgnoresObservers (k v)) :
    Bus.IgnoresObservers (withMHL k) := fun s =>
  Bus.andThen_registers_unobserved_congr (busRead_ignoresObservers s.hl s) hk

theorem modifyMHL_ignoresObservers {f : Byte → State → Byte} {k : Byte → State → State}
    (hf : ∀ v s, f v s.unobserved = f v s) (hk : ∀ v, State.IgnoresObservers (k v)) :
    Bus.IgnoresObservers (modifyMHL f k) := fun s =>
  Bus.andThen_unobserved_congr (busRead_ignoresObservers s.hl s) fun v t => by
    rw [hf v t]
    exact Bus.andThen_registers_unobserved_congr (busWrite_ignoresObservers s.hl (f v t) t) fun _ => hk v

theorem modifyMem_ignoresObservers (f : Byte → Flags → Result8) : Bus.IgnoresObservers (modifyMem f) :=
  modifyMHL_ignoresObservers (fun _ _ => rfl) fun _ _ => rfl

theorem rewriteMem_ignoresObservers (f : Byte → Byte) : Bus.IgnoresObservers (rewriteMem f) :=
  modifyMHL_ignoresObservers (fun _ _ => rfl) fun _ _ => rfl

theorem callBus_ignoresObservers (target : Addr) : Bus.IgnoresObservers (callBus target) := fun s =>
  Bus.andThen_registers_unobserved_congr (push16_ignoresObservers s.pc s) fun _ _ => rfl

theorem returnBus_ignoresObservers : Bus.IgnoresObservers returnBus := fun s =>
  Bus.andThen_registers_unobserved_congr (pop16_ignoresObservers s) fun _ _ => rfl

/-- The condition of a transfer is one on the flags. -/
theorem ifTaken_ignoresObservers (cc : Cond) (hm : Bus.IgnoresObservers m) (v : α) :
    Bus.IgnoresObservers fun s => if s.cond cc then m s else .ok v s := by
  intro s
  have hc : s.unobserved.cond cc = s.cond cc := rfl
  simp only [hc]
  split
  · exact hm s
  · exact Bus.ignoresObservers_ok v (f := fun s => s) (fun _ => rfl) s

end

/-! ### Every operation -/

/-- What a meaning answers, with the next state taken without its observers. -/
def Result.unobserved : Result → Result
  | .next s => .next s.unobserved
  | .fault r => .fault r
  | .refused r => .refused r

/-- A meaning or a step that answers the same, but for the observers, with or without them. -/
def Result.IgnoresObservers (m : State → Result) : Prop :=
  ∀ s, Result.unobserved (m s.unobserved) = Result.unobserved (m s)

theorem Result.next_ignoresObservers {f : State → State} (hf : State.IgnoresObservers f) :
    Result.IgnoresObservers fun s => .next (f s) := fun s => by
  simp only [Result.unobserved, hf s, State.unobserved_unobserved]

theorem done_ignoresObservers {f : State → State} (hf : State.IgnoresObservers f) :
    Result.IgnoresObservers fun s => done (f s) :=
  Result.next_ignoresObservers (f := fun s => (f s).returning .ok) fun s => congrArg (State.returning · .ok) (hf s)

theorem Result.IgnoresObservers.congr {m : State → Result} (hm : Result.IgnoresObservers m) {s t : State}
    (h : s.unobserved = t.unobserved) : Result.unobserved (m s) = Result.unobserved (m t) := by
  rw [← hm s, ← hm t, h]

theorem finish_ignoresObservers (i : Instr) {m : State → Bus Unit} (hm : Bus.IgnoresObservers m) :
    Result.IgnoresObservers fun s => finish i s (m s) := by
  intro s
  have hs := hm s
  cases h : m s with
  | ok v t =>
    rw [h] at hs
    obtain ⟨u, hu, hut⟩ := Bus.exists_ok_of_unobserved_eq hs
    simp only [h, hu]
    exact (done_ignoresObservers (f := fun s => s) fun _ => rfl).congr hut
  | broken t =>
    rw [h] at hs
    obtain ⟨u, hu, hut⟩ := Bus.exists_broken_of_unobserved_eq hs
    simp only [h, hu]
    exact (Result.next_ignoresObservers (f := (State.raiseResourceFault · _ _)) fun _ => rfl).congr hut

theorem State.setPair_ignoresObservers (p : Pair) (v : Addr) : State.IgnoresObservers (State.setPair · p v) := by
  cases p <;> exact fun _ => rfl

theorem State.setWide_ignoresObservers (p : Wide) (v : Addr) : State.IgnoresObservers (State.setWide · p v) := by
  cases p <;> exact fun _ => rfl

theorem State.stepIndirect_ignoresObservers (p : Indirect) (a : Addr) :
    State.IgnoresObservers (State.stepIndirect · p a) := by
  cases p <;> exact fun _ => rfl

theorem aluOn_ignoresObservers (k : AluOp) (v : Byte) : State.IgnoresObservers (aluOn k v) := by
  cases k <;> exact fun _ => rfl

theorem jumpIf_ignoresObservers (cc : Cond) (target : Addr) : Result.IgnoresObservers (jumpIf cc target) := fun s => by
  rw [jumpIf_eq, jumpIf_eq]
  exact done_ignoresObservers (f := fun s => s.setPc (if s.cond cc then target else s.pc)) (fun _ => rfl) s

theorem cbInstruction_ignoresObservers (i : Instr) (sub : Byte) : Result.IgnoresObservers (cbInstruction i sub) := by
  unfold cbInstruction
  generalize fieldX sub = x, operandOf (fieldZ sub) = o
  match x, o with
  | 0, .reg _ | 1, .reg _ | 2, .reg _ | _ + 3, .reg _ => exact done_ignoresObservers fun _ => rfl
  | 0, .mHL => exact finish_ignoresObservers i (modifyMem_ignoresObservers _)
  | 1, .mHL => exact finish_ignoresObservers i (withMHL_ignoresObservers fun _ _ => rfl)
  | 2, .mHL | _ + 3, .mHL => exact finish_ignoresObservers i (rewriteMem_ignoresObservers _)

/-- Every operation, whatever the bus does. -/
theorem runOperation_ignoresObservers (op : Operation) : Result.IgnoresObservers (runOperation op) := by
  cases op with
  | ldMHLReg _ | ldMHLImm _ | ldAbsAcc _ | ldhAbsAcc _ | ldPortAcc =>
    exact finish_ignoresObservers _ fun s => busWrite_ignoresObservers _ _ s
  | ldAccAbs _ | ldhAccAbs _ | ldAccPort =>
    exact finish_ignoresObservers _ fun s =>
      Bus.andThen_registers_unobserved_congr (busRead_ignoresObservers _ s) fun _ _ => rfl
  | ldRegMHL _ => exact finish_ignoresObservers _ (withMHL_ignoresObservers fun _ _ => rfl)
  | ldAccInd p =>
    exact finish_ignoresObservers _ fun s =>
      Bus.andThen_registers_unobserved_congr (busRead_ignoresObservers (s.indirectAddr p) s) fun v t =>
        State.stepIndirect_ignoresObservers p (s.indirectAddr p) (t.setReg .a v)
  | ldIndAcc p =>
    exact finish_ignoresObservers _ fun s =>
      Bus.andThen_registers_unobserved_congr (busWrite_ignoresObservers (s.indirectAddr p) s.regs.a s) fun _ =>
        State.stepIndirect_ignoresObservers p (s.indirectAddr p)
  | ldAbsSp a => exact finish_ignoresObservers _ fun s => busWrite16_ignoresObservers a s.sp s
  | ldWideImm p n => exact done_ignoresObservers (State.setWide_ignoresObservers p n)
  | incWide p => exact done_ignoresObservers fun s => State.setWide_ignoresObservers p (s.wide p + 1) s
  | decWide p => exact done_ignoresObservers fun s => State.setWide_ignoresObservers p (s.wide p - 1) s
  | alu k src => cases src with
    | reg r => exact done_ignoresObservers fun s => aluOn_ignoresObservers k (s.reg r) s
    | imm n => exact done_ignoresObservers (aluOn_ignoresObservers k n)
    | mHL => exact finish_ignoresObservers _ (withMHL_ignoresObservers (aluOn_ignoresObservers k))
  | inc o | dec o | rot _ o => cases o with
    | reg _ => exact done_ignoresObservers fun _ => rfl
    | mHL => exact finish_ignoresObservers _ (modifyMem_ignoresObservers _)
  | bit _ o => cases o with
    | reg _ => exact done_ignoresObservers fun _ => rfl
    | mHL => exact finish_ignoresObservers _ (withMHL_ignoresObservers fun _ _ => rfl)
  | res _ o | set _ o => cases o with
    | reg _ => exact done_ignoresObservers fun _ => rfl
    | mHL => exact finish_ignoresObservers _ (rewriteMem_ignoresObservers _)
  | push p => exact finish_ignoresObservers _ fun s => push16_ignoresObservers (s.pair p) s
  | pop p =>
    exact finish_ignoresObservers _ fun s =>
      Bus.andThen_registers_unobserved_congr (pop16_ignoresObservers s) (State.setPair_ignoresObservers p)
  | jpIf cc a => exact jumpIf_ignoresObservers cc a
  | jrIf cc e => exact fun s => jumpIf_ignoresObservers cc (s.pc + signExtend8 e) s
  | call a => exact finish_ignoresObservers _ (callBus_ignoresObservers a)
  | rst _ => exact finish_ignoresObservers _ (callBus_ignoresObservers _)
  | callIf cc a => exact finish_ignoresObservers _ (ifTaken_ignoresObservers cc (callBus_ignoresObservers a) ())
  | ret => exact finish_ignoresObservers _ returnBus_ignoresObservers
  | retIf cc => exact finish_ignoresObservers _ (ifTaken_ignoresObservers cc returnBus_ignoresObservers ())
  | prefixCb sub => exact cbInstruction_ignoresObservers _ sub
  | halt | stop _ | di | ei | reti | illegal _ => exact Result.next_ignoresObservers fun _ => rfl
  | nop | ldRegReg _ _ | ldRegImm _ _ | ldSpHl | ldHlSp _ | addHl _ | addSp _ | accRot _ | daa | cpl | scf | ccf | jp _
  | jpHl | jr _ => exact done_ignoresObservers fun _ => rfl

theorem exec_ignoresObservers (i : Instr) : Result.IgnoresObservers (exec i) := fun s => by
  obtain ⟨op, rfl⟩ := exists_operation i
  rw [exec_instr, exec_instr]
  exact runOperation_ignoresObservers op s

/-! ### The fetch and the step -/

/-- What a fetch ends in, with the state taken without its observers. -/
def Fetched.unobserved : Fetched → Fetched
  | .ok d s => .ok d s.unobserved
  | .broken op s => .broken op s.unobserved

theorem Fetched.exists_ok_of_unobserved_eq {f : Fetched} {d : Descriptor} {t : State}
    (h : f.unobserved = (Fetched.ok d t).unobserved) : ∃ u, f = .ok d u ∧ u.unobserved = t.unobserved := by
  cases f with
  | ok d' u =>
    obtain ⟨rfl, hu⟩ := Fetched.ok.inj h
    exact ⟨u, rfl, hu⟩
  | broken op u => exact nomatch h

theorem Fetched.exists_broken_of_unobserved_eq {f : Fetched} {op : Option Byte} {t : State}
    (h : f.unobserved = (Fetched.broken op t).unobserved) : ∃ u, f = .broken op u ∧ u.unobserved = t.unobserved := by
  cases f with
  | ok d u => exact nomatch h
  | broken op' u =>
    obtain ⟨rfl, hu⟩ := Fetched.broken.inj h
    exact ⟨u, rfl, hu⟩

/-- The opcode byte and the bytes after it are the same ones, or the same one of them finds the bus broken. -/
theorem fetch_ignoresObservers (s : State) : (fetch s.unobserved).unobserved = (fetch s).unobserved := by
  have hopcode := busRead_ignoresObservers s.pc s
  cases hs : busRead s.pc s with
  | broken t =>
    rw [hs] at hopcode
    obtain ⟨u, hu, hut⟩ := Bus.exists_broken_of_unobserved_eq hopcode
    rw [fetch_broken_first hs, fetch_broken_first hu]
    exact congrArg (Fetched.broken none) hut
  | ok op t =>
    rw [hs] at hopcode
    obtain ⟨u, hu, hut⟩ := Bus.exists_ok_of_unobserved_eq hopcode
    have hbytes := (busReadBytes_ignoresObservers (s.pc + 1) (extraBytes s.params.stopLen op)).congr hut
    cases ht : busReadBytes (s.pc + 1) (extraBytes s.params.stopLen op) t with
    | broken v =>
      rw [ht] at hbytes
      obtain ⟨w, hw, hwv⟩ := Bus.exists_broken_of_unobserved_eq hbytes
      rw [fetch_broken_later hs ht, fetch_broken_later hu hw]
      exact congrArg (Fetched.broken (some op)) hwv
    | ok bs v =>
      rw [ht] at hbytes
      obtain ⟨w, hw, hwv⟩ := Bus.exists_ok_of_unobserved_eq hbytes
      rw [fetch_ok hs ht, fetch_ok hu hw]
      exact congrArg (Fetched.ok _) hwv

theorem fetch_unobserved_congr {s t : State} (h : s.unobserved = t.unobserved) :
    (fetch s).unobserved = (fetch t).unobserved := by
  rw [← fetch_ignoresObservers s, ← fetch_ignoresObservers t, h]

/-- Every step, whatever it does. -/
theorem step_ignoresObservers : Result.IgnoresObservers step := by
  intro s
  have hagents := s.admitOne_unobserved
  cases hrun : s.runState with
  | faulted o =>
    rw [step_of_faulted hrun, step_of_faulted (s := s.unobserved) hrun]
    exact congrArg (fun u => Host.Outcome.next (u.returning (.faulted o))) hagents
  | running =>
    have hsame : s.unobserved.admitOne.stopRequested = s.admitOne.stopRequested := (congrArg State.stopRequested hagents :)
    cases hstop : s.admitOne.stopRequested with
    | true =>
      rw [step_of_stopRequested hrun hstop, step_of_stopRequested (s := s.unobserved) hrun (hsame.trans hstop)]
      exact congrArg (fun u => Host.Outcome.next (u.returning .stopped)) hagents
    | false =>
      have hstart : s.unobserved.admitOne.markStarted.unobserved = s.admitOne.markStarted.unobserved :=
        congrArg State.markStarted hagents
      have hfetch := fetch_unobserved_congr hstart
      cases hf : fetch s.admitOne.markStarted with
      | broken op t =>
        rw [hf] at hfetch
        obtain ⟨u, hu, hut⟩ := Fetched.exists_broken_of_unobserved_eq hfetch
        rw [step_of_fetch_broken hrun hstop hf,
          step_of_fetch_broken (s := s.unobserved) hrun (hsame.trans hstop) hu]
        exact congrArg (fun v => Host.Outcome.next (v.raiseResourceFault s.pc op)) hut
      | ok d t =>
        rw [hf] at hfetch
        obtain ⟨u, hu, hut⟩ := Fetched.exists_ok_of_unobserved_eq hfetch
        rw [step_of_fetch_ok hrun hstop hf, step_of_fetch_ok (s := s.unobserved) hrun (hsame.trans hstop) hu]
        exact (exec_ignoresObservers d.instr).congr (congrArg (State.advance · d) hut)

/-! ### The obligation -/

/-- Settles O56: the step ignores observers, and it always answers. -/
theorem observersDoNotDisturb : Obligations.ObserversDoNotDisturb := by
  intro s t h
  obtain ⟨u, hu⟩ := step_eq_next s.unobserved
  have hs := step_ignoresObservers s
  rw [h, hu] at hs
  exact ⟨u, hu, Host.Outcome.next.inj hs⟩

end Sys2Proof.Machine
end

section
/-! ## The flag byte and the register pairs -/

namespace Sys2Proof.Machine

/-! ### The flag byte (R24 to R26) -/

/-- Z, N, H and C count 128, 64, 32 and 16, in each of their sixteen combinations. -/
theorem Flags.toByte_toNat (f : Flags) :
    f.toByte.toNat = 128 * b2i f.z + 64 * b2i f.n + 32 * b2i f.h + 16 * b2i f.c := by
  obtain ⟨z, n, h, c⟩ := f
  revert z n h c
  decide

theorem Flags.toByte_and_lowNibble (f : Flags) : f.toByte &&& 0x0F = 0 := by
  obtain ⟨z, n, h, c⟩ := f
  revert z n h c
  decide

theorem Flags.ofByte_toByte (f : Flags) : Flags.ofByte f.toByte = f := by
  obtain ⟨z, n, h, c⟩ := f
  revert z n h c
  decide

/-- The bits of the byte, as its binary digits. -/
theorem Flags.ofByte_eq (b : Byte) : Flags.ofByte b =
    { z := decide (b.toNat / 128 % 2 = 1), n := decide (b.toNat / 64 % 2 = 1)
      h := decide (b.toNat / 32 % 2 = 1), c := decide (b.toNat / 16 % 2 = 1) } := by
  simp only [Flags.ofByte, BitVec.getLsbD, Nat.testBit_eq_decide_div_mod_eq]

/-- A byte is its high nibble joined with its low one. -/
theorem and_F0_of_lowNibble {b : Byte} (h : b &&& 0x0F = 0) : b &&& 0xF0 = b :=
  calc b &&& 0xF0
    _ = (b &&& 0xF0) ||| (b &&& 0x0F) := by rw [h]; exact BitVec.or_zero.symm
    _ = b &&& (0xF0 ||| 0x0F) := BitVec.and_or_distrib_left.symm
    _ = b := BitVec.and_allOnes

/-! ### The pairs (R20 to R22) -/

theorem highByte_toNat (v : Addr) : (highByte v).toNat = v.toNat / 256 := by
  have := v.isLt
  rw [highByte, BitVec.extractLsb'_toNat, Nat.shiftRight_eq_div_pow]
  omega

theorem and_F0_eq_iff (b : Byte) : b &&& 0xF0 = b ↔ b.toNat % 16 = 0 := by
  revert b
  decide

/-- F keeps all of the high byte exactly where that has no low nibble. -/
theorem and_F0FF_eq_iff (v : Addr) : v &&& 0xF0FF = v ↔ v.toNat / 256 % 16 = 0 := by
  have hjoin : v &&& 0xF0FF = joinBytes (highByte v &&& 0xF0) (lowByte v) := by
    rw [joinBytes_and_high, joinBytes_high_low]
  rw [← highByte_toNat, ← and_F0_eq_iff, hjoin]
  constructor
  · intro h
    simpa using congrArg highByte h
  · intro h
    rw [h, joinBytes_high_low]

/-! ### The obligations -/

/-- Settles O1: the packed byte combination by combination, the unpacked flags as binary digits. -/
theorem flagByteLayout : Obligations.FlagByteLayout :=
  ⟨fun f => ⟨f.toByte_toNat, f.toByte_and_lowNibble⟩, Flags.ofByte_eq⟩

/-- Settles O2: packing keeps the high nibble, and setting the flags one by one builds the same flags. -/
theorem flagCodecLaws : Obligations.FlagCodecLaws :=
  ⟨fun b h => (Flags.toByte_ofByte b).trans (and_F0_of_lowNibble h), Flags.ofByte_toByte, fun _ _ _ _ => ⟨rfl, rfl⟩⟩

/-- Settles O3: a pair is its second-named register joined above its first. -/
theorem pairPacking : Obligations.PairPacking :=
  ⟨fun _ => ⟨joinBytes_toNat _ _, joinBytes_toNat _ _, joinBytes_toNat _ _, joinBytes_toNat _ _⟩,
    fun _ => show joinBytes 0x00 0xC0 = 0x00C0 from rfl,
    fun _ => ⟨rfl, rfl, rfl, rfl, rfl, rfl, rfl⟩, fun _ => ⟨rfl, rfl, rfl, rfl, rfl⟩⟩

/-- Settles O4: each write by its equation, the round trips by what a pair holds after it is written. -/
theorem pairWrites : Obligations.PairWrites := by
  refine ⟨fun _ _ => ⟨rfl, rfl, rfl, rfl⟩, fun s p v hp => ?_, fun s => s.pair_setPair .af, fun s v => ?_,
    fun _ _ => ⟨rfl, rfl, rfl, rfl, rfl, rfl, rfl⟩, fun _ _ => ⟨rfl, rfl, rfl, rfl⟩⟩
  · rw [s.pair_setPair, if_neg hp]
  · rw [s.pair_setPair, if_pos rfl, and_F0FF_eq_iff]

end Sys2Proof.Machine
end

section
/-! ## Construction, and the start of the engine -/

namespace Sys2Proof.Machine

/-! ### Construction (R32, R184) -/

/-- A construction that succeeds is the reset state, but for SP, the storage and the parameters. -/
theorem eq_of_construct {c : Construction} {s : State} (h : construct c = some s) :
    s = { State.reset with sp := c.spInit, mem := (Memory.ofCells c.initMem).load 0 c.image, params := c.params } := by
  unfold construct at h
  split at h
  · exact (Option.some.inj h).symm
  · exact nomatch h

/-! ### The start of a step (R184, R186) -/

section
variable {s t : State}

theorem State.Move.keeps_started (h : s.Move t) (hs : s.started = true) : t.started = true := by
  cases h with
  | agents => exact s.admit_started.trans hs
  | read _ | write _ _ => exact hs
  | registers hr => exact hr.started.trans hs

theorem State.Reports.started (h : s.Reports t) : t.started = s.started := by
  cases h <;> rfl

end

/-! ### The obligations -/

/-- Settles O5: what a construction takes from its arguments is none of the registers but SP. -/
theorem constructionState : Obligations.ConstructionState := by
  intro c s h
  obtain rfl := eq_of_construct h
  exact ⟨rfl, rfl, rfl, rfl, rfl, rfl, rfl, rfl, rfl, (rfl : State.reset.pair .af = 0xB001),
    (rfl : State.reset.pair .bc = 0x1300), (rfl : State.reset.pair .de = 0xD800), (rfl : State.reset.pair .hl = 0x4D01)⟩

/-- Settles O57: the storage is built by writes alone, and nothing has been reported or accessed. -/
theorem invariantHoldsAfterConstruction : Obligations.InvariantHoldsAfterConstruction := by
  intro c s h
  obtain rfl := eq_of_construct h
  exact {
    memory := Memory.wf_load (Memory.wf_ofCells _) 0 c.image
    reported := fun _ => ⟨nofun, nofun⟩
    resource := nofun
    fatal := nofun
    unwired := nofun
    construction := fun _ => rfl
    startedFirst := nofun }

/-- Settles O8: a step that fetches works from the started engine, and neither its work nor its report unmakes the start. -/
theorem hostSetsRegistersOnlyBeforeTheFirstStep : Obligations.HostSetsRegistersOnlyBeforeTheFirstStep := by
  refine ⟨fun s v h => ?_, fun s v h => ?_, fun s hrun hstop => ?_⟩
  · simp [State.hostSetPc, State.hostSetSp, State.setPc, State.setSp, h]
  · simp [State.hostSetPc, State.hostSetSp, h]
  · obtain ⟨u, t, hu, hreport, ht⟩ := step_reports hrun hstop
    exact ⟨t, ht, hreport.started.trans (hu.keeps (fun _ _ => State.Move.keeps_started) rfl)⟩

end Sys2Proof.Machine
end

section
/-! ## The step, from the bytes at PC -/

namespace Sys2Proof.Machine

/-! ### The fetch with no other agent acting (R71 to R73) -/

/-- The `n` bytes from an address upward. -/
def Memory.bytesAt (m : Memory) (a : Addr) (n : Nat) : List Byte :=
  (List.range n).map fun k => m.read (a + BitVec.ofNat 16 k)

/-- The engine's reads of the `n` bytes from an address upward, the first one first. -/
def State.readEvents (s : State) (a : Addr) (n : Nat) : List BusEvent :=
  (List.range n).map fun k => ⟨.engine, .read, a + BitVec.ofNat 16 k, s.mem.read (a + BitVec.ofNat 16 k)⟩

/-- The state with events added to the record, the first one first. -/
def State.recording (s : State) (events : List BusEvent) : State := { s with busLog := events.reverse ++ s.busLog }

theorem add_ofNat_zero (a : Addr) : a + BitVec.ofNat 16 0 = a := BitVec.add_zero a

theorem add_ofNat_succ (a : Addr) (k : Nat) : a + BitVec.ofNat 16 (k + 1) = a + 1 + BitVec.ofNat 16 k := by
  bv_omega

theorem Memory.bytesAt_succ (m : Memory) (a : Addr) (n : Nat) :
    m.bytesAt a (n + 1) = m.read a :: m.bytesAt (a + 1) n := by
  simp only [Memory.bytesAt, List.range_succ_eq_map, List.map_cons, List.map_map, Function.comp_def, Nat.succ_eq_add_one,
    add_ofNat_succ, add_ofNat_zero]

theorem State.readEvents_succ (s : State) (a : Addr) (n : Nat) :
    s.readEvents a (n + 1) = ⟨.engine, .read, a, s.mem.read a⟩ :: s.readEvents (a + 1) n := by
  simp only [State.readEvents, List.range_succ_eq_map, List.map_cons, List.map_map, Function.comp_def,
    Nat.succ_eq_add_one, add_ofNat_succ, add_ofNat_zero]

theorem Memory.length_bytesAt (m : Memory) (a : Addr) (n : Nat) : (m.bytesAt a n).length = n := by
  simp [Memory.bytesAt]

theorem Memory.take_bytesAt (m : Memory) (a : Addr) {k n : Nat} (h : k ≤ n) : (m.bytesAt a n).take k = m.bytesAt a k := by
  rw [Memory.bytesAt, ← List.map_take, List.take_range, Nat.min_eq_left h, Memory.bytesAt]

theorem Memory.bytesAt_two (m : Memory) (a : Addr) : m.bytesAt (a + 1) 2 = [m.read (a + 1), m.read (a + 2)] := by
  rw [Memory.bytesAt_succ, Memory.bytesAt_succ, add_assoc]
  rfl

/-- One more read before the others is one more event before theirs. -/
theorem State.recording_readEvents_succ (s : State) (a : Addr) (n : Nat) :
    (s.logged ⟨.engine, .read, a, s.mem.read a⟩).recording (s.readEvents (a + 1) n) =
      s.recording (s.readEvents a (n + 1)) := by
  rw [State.readEvents_succ]
  simp [State.recording, State.logged]

/-- Two readings of the bytes after an opcode byte give one instruction, where the bytes it takes are the same. -/
theorem describe_instr_congr {sl : StopLen} {o b1 b2 c1 c2 : Byte}
    (h : [b1, b2].take (extraBytes sl o) = [c1, c2].take (extraBytes sl o)) :
    (describe sl o b1 b2).instr = (describe sl o c1 c2).instr :=
  encode_inj (wellFormed_describe sl o b1 b2) (wellFormed_describe sl o c1 c2)
    (by rw [encode_describe, encode_describe, h])

theorem length_describe (sl : StopLen) (o b1 b2 : Byte) : (describe sl o b1 b2).instr.length = extraBytes sl o + 1 := by
  rw [Instr.length, encode_describe, List.length_cons, List.length_take_of_le (extraBytes_le_two sl o)]

section
variable {s : State} (h : s.Quiet)
include h

theorem State.Quiet.busRead (a : Addr) :
    busRead a s = .ok (s.mem.read a) (s.logged ⟨.engine, .read, a, s.mem.read a⟩) := by
  rw [busRead_ok s a (h.admits_busBroken 1), h.valueAt, State.afterRead, h.admitOne, State.afterAgentRead]

theorem State.Quiet.logged (e : BusEvent) : (s.logged e).Quiet := h

theorem State.Quiet.busReadBytes (a : Addr) (n : Nat) :
    busReadBytes a n s = .ok (s.mem.bytesAt a n) (s.recording (s.readEvents a n)) := by
  induction n generalizing s a with
  | zero => rfl
  | succ n ih =>
    rw [Machine.busReadBytes, h.busRead, Bus.andThen_ok, ih (h.logged _), Bus.andThen_ok, Memory.bytesAt_succ,
      ← State.recording_readEvents_succ]
    rfl

/-- The fetch reads the bytes of the instruction, and its descriptor is that of the two bytes after the opcode byte, taken or
not. -/
theorem State.Quiet.fetch {o : Byte} (ho : s.mem.read s.pc = o) :
    ∃ d, fetch s = .ok d (s.recording (s.readEvents s.pc (extraBytes s.params.stopLen o + 1))) ∧
      d.extra = extraBytes s.params.stopLen o ∧
      d.instr = (describe s.params.stopLen o (s.mem.read (s.pc + 1)) (s.mem.read (s.pc + 2))).instr := by
  subst ho
  have hle := extraBytes_le_two s.params.stopLen (s.mem.read s.pc)
  have hbytes := (h.logged ⟨.engine, .read, s.pc, s.mem.read s.pc⟩).busReadBytes (s.pc + 1)
    (extraBytes s.params.stopLen (s.mem.read s.pc))
  refine ⟨_, (fetch_ok (h.busRead s.pc) hbytes).trans (congrArg (Fetched.ok _) ?_), rfl, describe_instr_congr ?_⟩
  · exact s.recording_readEvents_succ s.pc _
  · rw [take_getD_getD hle (Memory.length_bytesAt ..).ge, State.logged_mem, ← Memory.bytesAt_two,
      Memory.take_bytesAt _ _ le_rfl, Memory.take_bytesAt _ _ hle]

theorem State.Quiet.step_of_fetch_ok {d : Descriptor} {t : State} (hrun : s.runState = .running)
    (hstop : s.stopRequested = false) (hf : Machine.fetch s.markStarted = .ok d t) :
    step s = exec d.instr (t.advance d) :=
  Machine.step_of_fetch_ok hrun (by rwa [h.admitOne]) (by rwa [h.admitOne])

end

/-! ### The obligation -/

/-- Settles O14: with no other agent acting, the fetch finds the bytes the decoder is given. -/
theorem stepRunsTheBytesAtPc : Obligations.StepRunsTheBytesAtPc := by
  intro s i rest hquiet hrun hstop hdecode
  obtain ⟨o, tail, hbytes, -, hi, -⟩ := exists_of_decode_ok hdecode
  obtain ⟨ho, rfl⟩ := List.cons.inj hbytes
  have hstarted : s.markStarted.Quiet := hquiet
  obtain ⟨d, hfetch, hextra, hinstr⟩ := hstarted.fetch ho
  have hd : d.instr = i := hinstr.trans hi
  have hlength : i.length = d.extra + 1 := by rw [← hd, hinstr, hextra, length_describe]
  rw [hquiet.step_of_fetch_ok hrun hstop hfetch, hd, hlength, add_ofNat_succ, ← hextra]
  rfl

end Sys2Proof.Machine
end

section
/-! ## What an instruction changes of the registers and the flags

The next state of an operation that finds the bus whole is put together from the state before it by accesses of the bus, which
touch no register and no flag, and by writes of registers, each of a register in the operation's own list. So a register outside
the list is kept write by write. The flags are written at most once, with a result whose flags follow the column. -/

namespace Sys2Proof

open Machine

/-! ### The register frame (R16) -/

/-- From `s` to `t` no register changed that the operation does not list, nor SP or PC where it does not write them. -/
structure Operation.Frame (op : Operation) (s t : State) : Prop where
  registers : ∀ r, r ∉ op.registers → t.reg r = s.reg r
  sp : op.writesSp = false → t.sp = s.sp
  pc : op.writesPc = false → t.pc = s.pc

theorem Operation.frame_refl (op : Operation) (s : State) : op.Frame s s := ⟨fun _ _ => rfl, fun _ => rfl, fun _ => rfl⟩

namespace Operation.Frame
variable {op : Operation} {s t : State} (h : op.Frame s t)
include h

theorem afterRead (a : Addr) : op.Frame s (t.afterRead a) where
  registers r hr := by rw [State.reg, t.afterRead_regs]; exact h.registers r hr
  sp hw := (t.afterRead_sp a).trans (h.sp hw)
  pc hw := (t.afterRead_pc a).trans (h.pc hw)

theorem afterWrite (a : Addr) (v : Byte) : op.Frame s (t.afterWrite a v) where
  registers r hr := by rw [State.reg, t.afterWrite_regs]; exact h.registers r hr
  sp hw := (t.afterWrite_sp a v).trans (h.sp hw)
  pc hw := (t.afterWrite_pc a v).trans (h.pc hw)

theorem setFlags (f : Flags) : op.Frame s (t.setFlags f) := ⟨h.registers, h.sp, h.pc⟩

theorem returning (o : StepOutcome) : op.Frame s (t.returning o) := ⟨h.registers, h.sp, h.pc⟩

theorem raiseTerminal (x : Terminal) : op.Frame s (t.raiseTerminal x) := ⟨h.registers, h.sp, h.pc⟩

theorem setReg {r : Reg8} (hmem : r ∈ op.registers) (v : Byte) : op.Frame s (t.setReg r v) where
  registers r' hr' := (Regs.get_put_other t.regs v (ne_of_mem_of_not_mem hmem hr').symm).trans (h.registers r' hr')
  sp := h.sp
  pc := h.pc

theorem setSp (hw : op.writesSp = true) (v : Addr) : op.Frame s (t.setSp v) :=
  ⟨h.registers, fun hno => absurd (hno.symm.trans hw) Bool.false_ne_true, h.pc⟩

theorem setPc (hw : op.writesPc = true) (v : Addr) : op.Frame s (t.setPc v) :=
  ⟨h.registers, h.sp, fun hno => absurd (hno.symm.trans hw) Bool.false_ne_true⟩

theorem setPair {p : Pair} (hmem : p.halves ⊆ op.registers) (v : Addr) : op.Frame s (t.setPair p v) := by
  cases p with
  | af => exact (h.setReg (hmem (by decide)) _).setFlags _
  | bc | de | hl => exact (h.setReg (hmem (by decide)) _).setReg (hmem (by decide)) _

theorem setWide {p : Wide} (hmem : p.halves ⊆ op.registers) (hw : p.isSp = true → op.writesSp = true) (v : Addr) :
    op.Frame s (t.setWide p v) := by
  cases p with
  | bc => exact h.setPair (p := .bc) hmem v
  | de => exact h.setPair (p := .de) hmem v
  | hl => exact h.setPair (p := .hl) hmem v
  | sp => exact h.setSp (hw rfl) v

theorem stepIndirect {p : Indirect} (hmem : p.registers ⊆ op.registers) (a : Addr) : op.Frame s (t.stepIndirect p a) := by
  cases p with
  | bc | de => exact h
  | hlInc | hlDec => exact h.setPair (p := .hl) hmem _

theorem aluOn {k : AluOp} (hmem : k.registers ⊆ op.registers) (v : Byte) : op.Frame s (aluOn k v t) := by
  cases k with
  | cp => exact h.setFlags _
  | add | adc | sub | sbc | and | xor | or => exact (h.setReg (hmem (by decide)) _).setFlags _

end Operation.Frame

/-! ### The flags column (R76) -/

/-- The flags went from `f` to `g` as the row of the column allows. -/
def FlagEffects.Allow (e : FlagEffects) (andSetsH : Bool) (f g : Flags) : Prop :=
  e.z.Allows andSetsH f.z g.z ∧ e.n.Allows andSetsH f.n g.n ∧ e.h.Allows andSetsH f.h g.h ∧ e.c.Allows andSetsH f.c g.c

/-- The row of an operation that writes no flag. -/
def FlagEffects.allKept : FlagEffects := ⟨.kept, .kept, .kept, .kept⟩

theorem FlagEffects.allow_kept {andSetsH : Bool} {f g : Flags} (h : g = f) : FlagEffects.allKept.Allow andSetsH f g := by
  subst h
  exact ⟨rfl, rfl, rfl, rfl⟩

section
variable (andSetsH : Bool) (v : Byte) (f : Flags)

theorem aluOn_flags_allow (k : AluOp) (s : State) : k.flagEffects.Allow s.params.andSetsH f (aluOn k v s).flags := by
  cases k with
  | add | adc | sub | sbc | cp => exact ⟨trivial, rfl, trivial, trivial⟩
  | and | xor | or => exact ⟨trivial, rfl, rfl, rfl⟩

theorem inc8_flags_allow (o : Operand8) : (Operation.inc o).flagEffects.Allow andSetsH f (inc8 v f).flags :=
  ⟨trivial, rfl, trivial, rfl⟩

theorem dec8_flags_allow (o : Operand8) : (Operation.dec o).flagEffects.Allow andSetsH f (dec8 v f).flags :=
  ⟨trivial, rfl, trivial, rfl⟩

theorem rot8_flags_allow (k : RotOp) (o : Operand8) :
    (Operation.rot k o).flagEffects.Allow andSetsH f (rot8 k v f).flags := by
  cases k with
  | swap => exact ⟨trivial, rfl, rfl, rfl⟩
  | rlc | rrc | rl | rr | sla | sra | srl => exact ⟨trivial, rfl, rfl, trivial⟩

theorem setPair_flags_allow (p : Pair) (s : State) (x : Addr) :
    p.popFlagEffects.Allow andSetsH s.flags (s.setPair p x).flags := by
  cases p with
  | bc | de | hl => exact ⟨rfl, rfl, rfl, rfl⟩
  | af => exact ⟨trivial, trivial, trivial, trivial⟩

end

/-! ### Every operation -/

/-- The answer to `op`, run on `s`, is a next state with registers and flags as the tables allow the operation. -/
def Operation.Respected (op : Operation) (s : State) (r : Result) : Prop :=
  ∃ t, r = .next t ∧ op.Frame s t ∧ op.flagEffects.Allow s.params.andSetsH s.flags t.flags

section
variable {op : Operation} {s t : State}

theorem done_respected (hframe : op.Frame s t) (hflags : op.flagEffects.Allow s.params.andSetsH s.flags t.flags) :
    op.Respected s (done t) := ⟨_, rfl, hframe.returning .ok, hflags⟩

theorem finish_respected {m : Bus Unit} (hm : m = .ok () t) (hframe : op.Frame s t)
    (hflags : op.flagEffects.Allow s.params.andSetsH s.flags t.flags) {i : Instr} : op.Respected s (finish i s m) := by
  subst hm
  exact done_respected hframe hflags

/-- A read-modify-write of (HL) writes no register, and the flags of its result. -/
theorem finish_modifyMem_respected (hup : s.BusUp 2) {f : Byte → Flags → Result8}
    (hf : ∀ v, op.flagEffects.Allow s.params.andSetsH s.flags (f v s.flags).flags) {i : Instr} :
    op.Respected s (finish i s (modifyMem f s)) :=
  finish_respected (modifyMem_ok f hup) ((((op.frame_refl s).afterRead _).afterWrite _ _).setFlags _) (hf _)

theorem callBus_ok (target : Addr) (hup : s.BusUp 2) : callBus target s =
    .ok () ((((s.afterWrite (s.sp - 1) (highByte s.pc)).afterWrite (s.sp - 2) (lowByte s.pc)).setSp (s.sp - 2)).setPc
      target) := by
  rw [callBus, push16_ok s _ hup.whole, Bus.andThen_ok]

theorem returnBus_ok (hup : s.BusUp 2) : returnBus s =
    .ok () ((((s.afterRead s.sp).afterRead (s.sp + 1)).setSp (s.sp + 2)).setPc
      (joinBytes ((s.afterRead s.sp).valueAt (s.sp + 1)) (s.valueAt s.sp))) := by
  rw [returnBus, pop16_ok s hup.whole, Bus.andThen_ok]

/-- A call that happens writes SP and PC, and no flag. -/
theorem finish_callBus_respected (hsp : op.writesSp = true) (hpc : op.writesPc = true)
    (he : op.flagEffects = .allKept) (hup : s.BusUp 2) (target : Addr) {i : Instr} :
    op.Respected s (finish i s (callBus target s)) :=
  finish_respected (callBus_ok target hup)
    (((((op.frame_refl s).afterWrite _ _).afterWrite _ _).setSp hsp _).setPc hpc _)
    (he ▸ FlagEffects.allow_kept (by simp))

theorem finish_returnBus_respected (hsp : op.writesSp = true) (hpc : op.writesPc = true)
    (he : op.flagEffects = .allKept) (hup : s.BusUp 2) {i : Instr} :
    op.Respected s (finish i s (returnBus s)) :=
  finish_respected (returnBus_ok hup) (((((op.frame_refl s).afterRead _).afterRead _).setSp hsp _).setPc hpc _)
    (he ▸ FlagEffects.allow_kept (by simp))

/-- Taken, a conditional transfer is the transfer; not taken, it changes nothing. -/
theorem finish_ifTaken_respected (he : op.flagEffects = .allKept) {b : Bool} {m : Bus Unit}
    {plan : List (Access × Addr)} {i : Instr} (hm : s.BusUp plan.length → op.Respected s (finish i s m))
    (hup : s.BusUp (if b then plan else []).length) : op.Respected s (finish i s (if b then m else .ok () s)) := by
  cases b with
  | false => exact done_respected (op.frame_refl s) (he ▸ FlagEffects.allow_kept rfl)
  | true => exact hm hup

/-- Every operation but the bare CB byte, whose row is that of another operation (R167). -/
theorem exec_instr_respected (hcb : ∀ sub, op ≠ .prefixCb sub) (h : s.BusUp (op.accesses s).length) :
    op.Respected s (exec op.instr s) := by
  rw [exec_instr]
  have hrefl := op.frame_refl s
  cases op with
  | nop => exact done_respected hrefl (FlagEffects.allow_kept rfl)
  | halt | stop _ | di | ei | reti => exact ⟨_, rfl, hrefl.returning _, FlagEffects.allow_kept rfl⟩
  | illegal _ => exact ⟨_, rfl, hrefl.raiseTerminal _, FlagEffects.allow_kept rfl⟩
  | ldRegReg _ _ | ldRegImm _ _ =>
    exact done_respected (hrefl.setReg (.head _) _) (FlagEffects.allow_kept rfl)
  | ldMHLReg _ | ldMHLImm _ | ldAbsAcc _ | ldhAbsAcc _ | ldPortAcc =>
    exact finish_respected (busWrite_ok s _ _ h.first) (hrefl.afterWrite _ _) (FlagEffects.allow_kept (by simp))
  | ldAccAbs _ | ldhAccAbs _ | ldAccPort =>
    exact finish_respected (by rw [busRead_ok s _ h.first, Bus.andThen_ok]) ((hrefl.afterRead _).setReg (.head _) _)
      (FlagEffects.allow_kept (by simp))
  | ldRegMHL _ =>
    refine finish_respected (withMHL_ok s _ h.first) ((hrefl.afterRead _).setReg (.head _) _) ?_
    exact FlagEffects.allow_kept (by simp)
  | ldAccInd p =>
    exact finish_respected (by rw [busRead_ok s _ h.first, Bus.andThen_ok])
      (((hrefl.afterRead _).setReg (.head _) _).stepIndirect (List.subset_cons_self _ _) _)
      (FlagEffects.allow_kept (by simp))
  | ldIndAcc p =>
    exact finish_respected (by rw [busWrite_ok s _ _ h.first, Bus.andThen_ok])
      ((hrefl.afterWrite _ _).stepIndirect (List.Subset.refl _) _) (FlagEffects.allow_kept (by simp))
  | ldAbsSp _ =>
    exact finish_respected (busWrite16_ok s _ _ h.whole) ((hrefl.afterWrite _ _).afterWrite _ _)
      (FlagEffects.allow_kept (by simp))
  | ldWideImm p _ | incWide p | decWide p =>
    exact done_respected (hrefl.setWide (List.Subset.refl _) id _) (FlagEffects.allow_kept (by simp))
  | ldSpHl => exact done_respected (hrefl.setSp rfl _) (FlagEffects.allow_kept rfl)
  | addSp _ => exact done_respected ((hrefl.setSp rfl _).setFlags _) ⟨rfl, rfl, trivial, trivial⟩
  | ldHlSp _ | addHl _ =>
    exact done_respected ((hrefl.setPair (p := .hl) (List.Subset.refl _) _).setFlags _) ⟨rfl, rfl, trivial, trivial⟩
  | alu k src => cases src with
    | reg _ | imm _ => exact done_respected (hrefl.aluOn (List.Subset.refl _) _) (aluOn_flags_allow _ _ k s)
    | mHL =>
      have hflags := aluOn_flags_allow (s.valueAt s.hl) s.flags k (s.afterRead s.hl)
      rw [State.afterRead_params] at hflags
      exact finish_respected (withMHL_ok s _ h.first) ((hrefl.afterRead _).aluOn (List.Subset.refl _) _) hflags
  | inc o => cases o with
    | reg r => exact done_respected ((hrefl.setReg (.head _) _).setFlags _) (inc8_flags_allow _ _ _ (.reg r))
    | mHL => exact finish_modifyMem_respected h (fun v => inc8_flags_allow _ v _ .mHL)
  | dec o => cases o with
    | reg r => exact done_respected ((hrefl.setReg (.head _) _).setFlags _) (dec8_flags_allow _ _ _ (.reg r))
    | mHL => exact finish_modifyMem_respected h (fun v => dec8_flags_allow _ v _ .mHL)
  | rot k o => cases o with
    | reg r => exact done_respected ((hrefl.setReg (.head _) _).setFlags _) (rot8_flags_allow _ _ _ k (.reg r))
    | mHL => exact finish_modifyMem_respected h (fun v => rot8_flags_allow _ v _ k .mHL)
  | bit _ o => cases o with
    | reg _ => exact done_respected (hrefl.setFlags _) ⟨trivial, rfl, rfl, rfl⟩
    | mHL =>
      refine finish_respected (withMHL_ok s _ h.first) ((hrefl.afterRead _).setFlags _) ?_
      exact ⟨trivial, rfl, rfl, (congrArg Flags.c (s.afterRead_flags s.hl) :)⟩
  | res _ o | set _ o => cases o with
    | reg _ => exact done_respected (hrefl.setReg (.head _) _) (FlagEffects.allow_kept rfl)
    | mHL =>
      refine finish_respected (modifyMHL_ok s _ _ h.whole) ((hrefl.afterRead _).afterWrite _ _) ?_
      exact FlagEffects.allow_kept (by simp)
  | accRot _ => exact done_respected ((hrefl.setReg (.head _) _).setFlags _) ⟨rfl, rfl, rfl, trivial⟩
  | daa => exact done_respected ((hrefl.setReg (.head _) _).setFlags _) ⟨trivial, rfl, rfl, trivial⟩
  | cpl => exact done_respected ((hrefl.setReg (.head _) _).setFlags _) ⟨rfl, rfl, rfl, rfl⟩
  | scf => exact done_respected (hrefl.setFlags _) ⟨rfl, rfl, rfl, rfl⟩
  | ccf => exact done_respected (hrefl.setFlags _) ⟨rfl, rfl, rfl, trivial⟩
  | push _ =>
    exact finish_respected (push16_ok s _ h.whole) (((hrefl.afterWrite _ _).afterWrite _ _).setSp rfl _)
      (FlagEffects.allow_kept (by simp))
  | pop p =>
    have hflags := setPair_flags_allow s.params.andSetsH p (((s.afterRead s.sp).afterRead (s.sp + 1)).setSp (s.sp + 2))
      (joinBytes ((s.afterRead s.sp).valueAt (s.sp + 1)) (s.valueAt s.sp))
    simp only [State.setSp_flags, State.afterRead_flags] at hflags
    exact finish_respected (by rw [pop16_ok s h.whole, Bus.andThen_ok])
      ((((hrefl.afterRead _).afterRead _).setSp rfl _).setPair (List.Subset.refl _) _) hflags
  | jp _ | jpHl | jr _ => exact done_respected (hrefl.setPc rfl _) (FlagEffects.allow_kept rfl)
  | jpIf cc _ | jrIf cc _ =>
    rw [runOperation, jumpIf_eq]
    exact done_respected (hrefl.setPc rfl _) (FlagEffects.allow_kept rfl)
  | call _ | rst _ => exact finish_callBus_respected rfl rfl rfl h _
  | callIf _ _ => exact finish_ifTaken_respected rfl (fun hup => finish_callBus_respected rfl rfl rfl hup _) h
  | ret => exact finish_returnBus_respected rfl rfl rfl h
  | retIf _ => exact finish_ifTaken_respected rfl (fun hup => finish_returnBus_respected rfl rfl rfl hup) h
  | prefixCb sub => exact absurd rfl (hcb sub)

end

/-- The CB map never answers the bare CB byte, so what is looked up resolved is no prefixed instruction (R65, R167). -/
theorem Operation.resolve_ne_prefixCb (op : Operation) (sub : Byte) : op.resolve ≠ .prefixCb sub := by
  cases op with
  | prefixCb x => exact fun h => decodeCb_instr_ne_prefix_CB x sub (congrArg Operation.instr h)
  | _ => nofun

theorem exec_resolve (op : Operation) (s : State) : exec op.resolve.instr s = exec op.instr s := by
  cases op with
  | prefixCb sub => exact (prefixIsTheInstructionOfItsSubOpcode.1 s sub).symm
  | _ => rfl

/-- What an operation that finds the bus whole answers is as the tables allow it. -/
theorem respected_of_exec {op : Operation} {s t : State} (hup : s.BusUp (op.resolve.accesses s).length)
    (h : exec op.instr s = .next t) :
    op.resolve.Frame s t ∧ op.resolve.flagEffects.Allow s.params.andSetsH s.flags t.flags := by
  obtain ⟨u, hu, hrespects⟩ := exec_instr_respected op.resolve_ne_prefixCb hup
  obtain rfl : u = t := Host.Outcome.next.inj ((hu.symm.trans (exec_resolve op s)).trans h)
  exact hrespects

/-! ### The obligations -/

/-- Settles O49: the flags are written at most once, with a result whose flags follow the column. -/
theorem flagsFollowTheTable : Obligations.FlagsFollowTheTable :=
  fun _ _ _ hup h => (respected_of_exec hup h).2

/-- Settles O50: every register write is of a register in the operation's list. -/
theorem registerFrame : Obligations.RegisterFrame := by
  intro op s t hup h
  obtain ⟨hregisters, hsp, hpc⟩ := (respected_of_exec hup h).1
  exact ⟨hregisters, hsp, hpc⟩

end Sys2Proof
end
